-- ==== Sys2Proof/Word.lean ====
section
/-! DEFINITION. The widths of the Ilvanto L64's words, numbers and indexes (00_scope.md, R1 to R9). -/

namespace Sys2Proof

/-- A frame word, a parameter word or a data word: 32 bits, bit 0 least significant (R1, R6). -/
abbrev Word := BitVec 32

/-- A signed 24-bit sample in two's complement (R3). -/
abbrev Sample := BitVec 24

/-- A frame number; its arithmetic is modulo 2^18 (R13). -/
abbrev FrameNumber := BitVec 18

/-- A node address or a source field: 0 unaddressed, 1 to 61 nodes, 62 claimed, 63 broadcast (R2 to R5). -/
abbrev Address := BitVec 6

/-- A command sequence number or a notice sequence number, wrapping at 256 (R4, R125). -/
abbrev SequenceNumber := BitVec 8

/-- The opaque tag of a command, or a notice's repeat count where it is sent (R4, R5). -/
abbrev Tag := BitVec 7

/-- A counter's value, kept modulo 2^40 (R142). -/
abbrev CounterValue := BitVec 40

/-- An input or output channel number, 0 to 7. -/
abbrev Channel := Fin 8

/-- A monitor class, 0 to 7 (section 3.4). -/
abbrev MonitorClass := Fin 8

/-- A slot number, 0 to 63. -/
abbrev SlotNumber := Fin 64

/-- An event counter's index, 0 to 15. -/
abbrev CounterIndex := Fin 16

/-- A moment on the node's own clock, counted in bit times (section 2.1). The manual gives it no width. -/
abbrev BitTime := Nat

end Sys2Proof
end

