-- ==== Sys2Proof/Config.lean ====
section
/-! DEFINITION. The device figures that hold throughout the manual (00_scope.md), the fixed patterns of R1 and R11,
and the one thing of the device that the manual leaves open: the numeric command codes. -/

namespace Sys2Proof.Config

/-- A frame lasts 2,464 bit times (R1). -/
def frameBits : Nat := 2464

/-- A processed frame's end falls 64 bit times before its last bit leaves, and a forwarded word leaves
64 bit times after it arrived (R10, R29). -/
def forwardDelay : Nat := 64

/-- The start-up idle fill lasts 2,464 bit times (R15, R25). -/
def startupFill : Nat := 2464

/-- The sync word that opens every frame (R1). -/
def syncWord : Word := 0xF35C0A69#32

/-- The generator polynomial of the check word, the x^32 term left out (R11). -/
def crcPolynomial : Word := 0x04C11DB7#32

/-- The check word's remainder register before bit 31 of the header word (R11). -/
def crcPreset : Word := 0xFFFFFFFF#32

/-- Half the frame-number space: the bound of "at or past" (R13). -/
def halfSpace : Nat := 131072

/-- Places of the notice queue (section 7.2). -/
def noticePlaces : Nat := 6

/-- Places of the snapshot queue (section 9.1). -/
def snapshotPlaces : Nat := 4

/-- The largest unlocked-frame count (R23). -/
def unlockedMax : Nat := 16777215

/-- The numeric command codes, which the manual does not list: command number k of the command summary has the code
`codeOrder k`. A free value, fixed for the machine: an arbitrary order of the 256 codes, so that every command has one
code and no code names two commands (00_scope.md, Conventions; R4; assumption 1). -/
opaque codeOrder : Equiv.Perm (BitVec 8)

end Sys2Proof.Config
end

