-- ==== Sys2Proof/Syntax.lean ====
section
/-! DEFINITION. The happenings that reach the node: one constructor of `Instr` for each row of
spec/opcode_table.json, with the operands its rule names. The block's queue holds them (State.pending). -/

namespace Sys2Proof

/-- The 21 commands of the command summary (section 6.6). The manual lists no numeric codes: which code names which
command is free (Machine.commandCode, assumption 1). -/
inductive CommandName where
  | identify | assignAddress | nodeReset | readStatus | setParameter | getParameter
  | writeEntries | readEntries | copyActive | commit | cancelCommit
  | acknowledgeNotice
  | setCounter | getCounterControl | readCounters | clearCounters | gate
  | takeSnapshot | cancelSnapshot | readSnapshot | releaseSnapshot
  deriving DecidableEq, Repr

/-- The eight notice kinds, in the order of their codes 80h to 87h (R5, R123). -/
inductive NoticeKind where
  | restarted | syncLost | syncRegained | numberJump | commitDone | outputExpired
  | snapshotReady | snapshotLost
  deriving DecidableEq, Repr

/-- The works of one frame end that can reach the same state and whose order the manual leaves to either
(R66, R101, R124, R126, R129, R130). The Snapshot Unit's raising has its own place, `FrameClose.snapshotFirst`. -/
inductive EndItem where
  /-- the resend countdowns fall by one (R127) -/
  | resend
  /-- the item written in the frame is delivered or not (R120, R126) -/
  | delivery
  /-- NUMBER_JUMP is raised, if R32 resynchronised E -/
  | jumpRaise
  /-- OUTPUT_EXPIRED is raised, if a channel expired under R85 -/
  | expiryRaise
  /-- a running copy completes (R65) -/
  | copyCompletion
  /-- the command in flight is taken and checked (R96 to R98) -/
  | command
  deriving DecidableEq, Repr

/-- What arrives at a processed frame's end: the inbound check word (of no account in a regenerated
frame), and the order in which the works that meet at this frame end are taken. Works not named in
`order` follow in the standard order (assumption 4). -/
structure FrameClose where
  check : Word
  order : List EndItem
  /-- the Snapshot Unit raises SNAPSHOT_READY or SNAPSHOT_LOST before a SET PARAMETER of this frame end acts on the
  notices, and otherwise after it (R86, R124, R130, R158; assumption 16) -/
  snapshotFirst : Bool
  deriving DecidableEq, Repr

/-- One happening at the node: a row of the table. -/
inductive Instr where
  -- resets and start-up
  | powerOn (t : BitTime)
  | resetPinLow (t : BitTime)
  | resetPinRelease (t : BitTime)
  | startupIdleFillEnds
  | regeneratedFrameStart
  -- the inbound link; `p` is the bit time of a sync word's first bit
  | syncFoundInHunt (p : BitTime)
  | candidateCheckWord (content : List Word) (check : Word)
  | secondSyncJudged (window : Word)
  | syncFoundInLocked
  | syncMissInLocked
  | syncFoundInFlywheel
  | syncMissInFlywheel
  | syncFoundElsewhereInFlywheel (p : BitTime)
  -- the words of the frame in flight; for a regenerated frame the inbound operands are of no account
  | headerTime (w : Word)
  | commitFire (w : Word)
  | slotInFlight (w : Word)
  -- `names` is the command that the code field of `w` names in the node's table of codes (assumption 1)
  | commandRegionHeader (w : Word) (names : Option CommandName) (p0 p1 p2 p3 : Word)
  | responseRegionHeader (w d0 d1 d2 d3 : Word)
  | sampleArrival (c : Channel) (v : Sample)
  -- the frame end, and the particular happenings of a frame end
  | frameEnd (e : FrameClose)
  | outputExpiry (c : Channel) (e : FrameClose)
  | courtesyGapRunsOut (e : FrameClose)
  | noticeResend (k : NoticeKind) (e : FrameClose)
  | counterWrap (i : CounterIndex) (e : FrameClose)
  | scheduledSnapshotFire (e : FrameClose)
  | copyComplete (e : FrameClose)
  -- the frame end at which the named command is taken
  | identify (e : FrameClose)
  | assignAddress (e : FrameClose)
  | nodeReset (e : FrameClose)
  | readStatus (e : FrameClose)
  | setParameter (e : FrameClose)
  | getParameter (e : FrameClose)
  | writeEntries (e : FrameClose)
  | readEntries (e : FrameClose)
  | copyActive (e : FrameClose)
  | commit (e : FrameClose)
  | cancelCommit (e : FrameClose)
  | acknowledgeNotice (e : FrameClose)
  | setCounter (e : FrameClose)
  | getCounterControl (e : FrameClose)
  | readCounters (e : FrameClose)
  | clearCounters (e : FrameClose)
  | gateStart (e : FrameClose)
  | gateStop (e : FrameClose)
  | takeSnapshotNow (e : FrameClose)
  | takeSnapshotScheduled (e : FrameClose)
  | cancelSnapshot (e : FrameClose)
  | readSnapshot (e : FrameClose)
  | releaseSnapshot (e : FrameClose)
  deriving DecidableEq, Repr

end Sys2Proof
end

