-- ==== Sys2Proof/WellFormed.lean ====
section
/-! DEFINITION. Which happenings are well formed: what the operands' types do not say by themselves. -/

namespace Sys2Proof

/-- The works named in a frame end's order are named once each (assumption 4). -/
def FrameClose.wf (e : FrameClose) : Bool := decide e.order.Nodup

/-- The frame close that a row carries, if it is a row of a frame end. -/
def Instr.close? : Instr → Option FrameClose
  | .powerOn _ | .resetPinLow _ | .resetPinRelease _ | .startupIdleFillEnds | .regeneratedFrameStart
  | .syncFoundInHunt _ | .candidateCheckWord _ _ | .secondSyncJudged _ | .syncFoundInLocked
  | .syncMissInLocked | .syncFoundInFlywheel | .syncMissInFlywheel
  | .syncFoundElsewhereInFlywheel _ | .headerTime _ | .commitFire _ | .slotInFlight _
  | .commandRegionHeader _ _ _ _ _ _ | .responseRegionHeader _ _ _ _ _ | .sampleArrival _ _ => none
  | .frameEnd e | .outputExpiry _ e | .courtesyGapRunsOut e | .noticeResend _ e | .counterWrap _ e
  | .scheduledSnapshotFire e | .copyComplete e | .identify e | .assignAddress e | .nodeReset e
  | .readStatus e | .setParameter e | .getParameter e | .writeEntries e | .readEntries e
  | .copyActive e | .commit e | .cancelCommit e | .acknowledgeNotice e | .setCounter e
  | .getCounterControl e | .readCounters e | .clearCounters e | .gateStart e | .gateStop e
  | .takeSnapshotNow e | .takeSnapshotScheduled e | .cancelSnapshot e | .readSnapshot e
  | .releaseSnapshot e => some e

/-- A candidate frame brings words 1 to 75 (R17); a frame end's order names no work twice. -/
def Instr.wf (i : Instr) : Bool :=
  match i with
  | .candidateCheckWord content _ => content.length == 75
  | i => match i.close? with
    | some e => e.wf
    | none => true

end Sys2Proof
end

