-- ==== Sys2Proof/Decode.lean ====
section
/-! DEFINITION. The table gives no row bits ("fields": [] in every row), so no word spells a happening
(assumption 17). -/

namespace Sys2Proof

/-- The happening that a word spells by the table's bits: none, since no row has bits. -/
def decodeTableWord (_nbits _w : Nat) : Option Instr := none

end Sys2Proof
end

