-- ==== Sys2Proof/Machine/State.lean ====
section
/-! DEFINITION. Everything the manual gives the node to hold, block by block, as plain data, and its reset.
INVENTORY.md, "State", lists each field with the rule that names it. -/

namespace Sys2Proof.Machine

/-! ### Map entries and counter control words (R7, R9) -/

/-- The seven map actions; action code 7 is no action (R7). -/
inductive MapAction where
  | pass | clear | insert | fill | tap | drain | status
  deriving DecidableEq, Repr

/-- A map entry with its five fields; its 16-bit form is `MapEntry.bits` (R7). -/
structure MapEntry where
  action : MapAction
  channel : Channel
  cls : MonitorClass
  expect : Bool
  source : Address
  deriving DecidableEq, Repr

/-- The all-zero entry: PASS, channel 0, class 0, no expectation (R7). -/
def MapEntry.zero : MapEntry :=
  { action := .pass, channel := 0, cls := 0, expect := false, source := 0 }

/-- The slot sources, codes 0 to 7, counted per monitor class (R137). -/
inductive SlotSource where
  | emptyIn | staleIn | foreign | inserted | filled | fillSkipped | tapped | cleared
  deriving DecidableEq, Repr

/-- The channel sources, codes 8 to 11, counted per channel (R89, R137). -/
inductive ChannelSource where
  | arrived | overwritten | updated | safe
  deriving DecidableEq, Repr

/-- The node sources, codes 12 to 27 (R137). -/
inductive NodeSource where
  | frameGood | frameDamaged | frameRegenerated | framePassedRegenerated | syncMiss | frameDropped
  | numberJump | commandTaken | commandRefused | commandOverrun | regionWritten | regionDenied
  | responseSent | responseResent | noticeDropped | always
  deriving DecidableEq, Repr

/-- An event source; the kind decides what a counter's mask means (section 8.2). -/
inductive EventSource where
  | slot (s : SlotSource)
  | channel (s : ChannelSource)
  | node (s : NodeSource)
  deriving DecidableEq, Repr

/-- The sense of a threshold (R9, R141). -/
inductive Sense where
  | atLeast | below
  deriving DecidableEq, Repr

/-- A counter control word with its fields; its 32-bit form is `CounterControl.bits` (R9). -/
structure CounterControl where
  source : EventSource
  mask : BitVec 8
  threshold : BitVec 8
  sense : Sense
  edge : Bool
  enable : Bool
  snapOnWrap : Bool
  clearOnCapture : Bool
  deriving DecidableEq, Repr

/-- The all-zero control word (R9, R135). -/
def CounterControl.zero : CounterControl :=
  { source := .slot .emptyIn, mask := 0, threshold := 0, sense := .atLeast, edge := false
    enable := false, snapOnWrap := false, clearOnCapture := false }

/-! ### Link Receiver (section 2.1) and the frame in flight -/

/-- The four link states (section 2.2). -/
inductive LinkState where
  | hunt | verify | locked | flywheel
  deriving DecidableEq, Repr

/-- The Link Receiver's state (section 2.1, R14). `candidateChecked`, `relockWait` and `verifiedHere` are
implied by R17 and R27. -/
structure LinkReceiver where
  state : LinkState
  missCount : Nat
  /-- where the next inbound sync word is due; right after a verification, where it was found (assumption 8) -/
  expectedPos : Option BitTime
  candidatePos : Option BitTime
  /-- the candidate's check word has arrived and passed (R17) -/
  candidateChecked : Bool
  /-- LOCKED, waiting for the first frame that may be forwarded (R24, R27) -/
  relockWait : Bool
  /-- the sync word at the expected position is the one that completed the verification (R17) -/
  verifiedHere : Bool
  /-- the expected frame number (R31) -/
  E : FrameNumber
  lostFlag : Bool
  /-- the unlocked-frame count (R23) -/
  unlocked : Nat
  /-- SYNC_MISS events awaiting delivery (R33) -/
  pendMiss : Nat
  /-- FRAME_DROPPED events awaiting delivery (R33) -/
  pendDropped : Nat
  deriving DecidableEq, Repr

/-- The Link Receiver after power-on and after the reset pin (R14). -/
def LinkReceiver.reset : LinkReceiver :=
  { state := .hunt, missCount := 0, expectedPos := none, candidatePos := none
    candidateChecked := false, relockWait := false, verifiedHere := false, E := 0
    lostFlag := false, unlocked := 0, pendMiss := 0, pendDropped := 0 }

/-- The two map banks (R34). -/
inductive Bank where
  | a | b
  deriving DecidableEq, Repr

/-- The processed frame in flight: from its start to its end (00_scope.md, "Processed frame"). -/
structure FrameInFlight where
  /-- built by the node, not forwarded (R25) -/
  regenerated : Bool
  /-- the number of the next word to pass: 1 before the header time, 76 once words 1 to 75 have passed (R1) -/
  pos : Nat
  /-- the frame number given at the header time (R31) -/
  number : FrameNumber
  /-- the header word, as received or as built (R2, R26) -/
  header : Word
  /-- the bank fixed at the header time (R37) -/
  bank : Bank
  /-- the check remainder over the inbound words passed so far (R11) -/
  rxCrc : Word
  /-- the check remainder over the outbound words sent so far (R11, R12) -/
  txCrc : Word
  deriving DecidableEq, Repr

/-- What the outbound link carries. -/
inductive LineOut where
  /-- idle fill while the reset pin is held, from the bit at which it was driven low (R15) -/
  | held (since : BitTime)
  /-- the start-up idle fill (R15, R25) -/
  | startup (since : BitTime)
  /-- idle fill while the node waits for the first frame it may forward (R27) -/
  | relockFill (since : BitTime)
  /-- a frame whose first bit leaves at `start`, after `fill` bit times of idle fill (R1, R10, R25) -/
  | frame (start : BitTime) (fill : Nat)
  deriving DecidableEq, Repr

/-- The Link Transmitter: the line, and the words of the frame now being sent, in order, as composed so
far (assumption 11). -/
structure Transmitter where
  line : LineOut
  sent : List Word
  deriving DecidableEq, Repr

/-! ### Slot Engine and Map Store -/

/-- A staged tap (R38). -/
structure TapRecord where
  channel : Channel
  value : Sample
  cls : MonitorClass
  deriving DecidableEq, Repr

/-- A table of amounts: eight rows of sources by eight classes or channels. -/
abbrev AmountTable (n : Nat) := Vector (Vector Nat 8) n

/-- The table with every amount 0. -/
def AmountTable.zero (n : Nat) : AmountTable n := Vector.replicate n (Vector.replicate 8 0)

/-- The Slot Engine's per-frame items (R38). -/
structure SlotEngine where
  staged : List TapRecord
  amounts : AmountTable 8
  deriving DecidableEq, Repr

/-- The Slot Engine with both items empty (R38). -/
def SlotEngine.empty : SlotEngine := { staged := [], amounts := AmountTable.zero 8 }

/-- The contents of one bank. -/
abbrev MapBank := Vector MapEntry 64

/-- The reset contents of a bank (R35). -/
def MapBank.allPass : MapBank := Vector.replicate 64 MapEntry.zero

/-- The Map Store (section 4.1). `commit` is the armed F, `copy` the source bank of a running copy. `resetDue` is
implied by R35 and R55: a NODE RESET was taken, and the banks take the reset contents at the next header time. -/
structure MapStore where
  bankA : MapBank
  bankB : MapBank
  active : Bank
  commit : Option FrameNumber
  copy : Option Bank
  resetDue : Bool
  deriving DecidableEq, Repr

/-- The Map Store after power-on and the reset pin (R35, R55). -/
def MapStore.reset : MapStore :=
  { bankA := MapBank.allPass, bankB := MapBank.allPass, active := .a, commit := none, copy := none
    resetDue := false }

/-! ### Sample Channels -/

/-- An input channel's state with its latest sample and, while FRESH, its delivered mark (section 5.1). The
latest sample is none exactly in NEVER, and the mark is set only on a FRESH sample (assumption 13). -/
inductive InputState where
  | never
  | fresh (latest : Sample) (mark : Bool)
  | used (latest : Sample)
  deriving DecidableEq, Repr

/-- An input channel with the pending amounts of the frame in flight (section 5.1). -/
structure InputChannel where
  state : InputState
  arrived : Nat
  overwritten : Nat
  deriving DecidableEq, Repr

/-- An input channel after every reset (R76). -/
def InputChannel.reset : InputChannel := { state := .never, arrived := 0, overwritten := 0 }

/-- An output channel: the live value and the age are held while LIVE (section 5.2; assumption 13). -/
inductive OutputChannel where
  | unassigned
  | safe
  | live (value : Sample) (age : Nat)
  deriving DecidableEq, Repr

/-! ### Command Unit -/

/-- The status codes, in the order of their codes 00h to 0Bh (R103). -/
inductive Status where
  | ok | badCommand | badParameter | busy | commitLocked | notArmed | alreadyArmed | mapConflict
  | noAddress | queueEmpty | aborted | staleAck
  deriving DecidableEq, Repr

/-- The answer to an executed unicast or claimed command (R99); the data count is the number of data words. -/
structure Answer where
  seq : SequenceNumber
  tag : Tag
  status : Status
  data : List Word
  deriving DecidableEq, Repr

/-- The response record, which holds the unicast sequence too (R91, R99; assumption 13). -/
inductive ResponseRecord where
  | empty
  | pending (seq : SequenceNumber) (tag : Tag)
  | unsent (a : Answer)
  | sent (a : Answer)
  deriving DecidableEq, Repr

/-- How a command names this node (R93). -/
inductive TargetClass where
  | unicast | broadcast | firstUnaddressed | none
  deriving DecidableEq, Repr

/-- The command in flight (R92). `name` is the command the code names, none for an unknown code. -/
structure Request where
  cls : TargetClass
  seq : SequenceNumber
  name : Option CommandName
  count : Nat
  tag : Tag
  p0 : Word
  p1 : Word
  p2 : Word
  p3 : Word
  deriving DecidableEq, Repr

/-- The parameter table (R112). -/
structure Parameters where
  courtesyGap : Nat
  flywheelLimit : Nat
  noticeResend : Nat
  noticeMask : BitVec 8
  snapOnSyncLoss : Bool
  holdLimit : Vector Nat 8
  safeValue : Vector Sample 8
  deriving DecidableEq, Repr

/-- The defaults of the parameter table (R112). -/
def Parameters.default : Parameters :=
  { courtesyGap := 2, flywheelLimit := 4, noticeResend := 400, noticeMask := 255#8
    snapOnSyncLoss := false, holdLimit := Vector.replicate 8 40, safeValue := Vector.replicate 8 0 }

/-- The command events of the frame in flight, 0 or 1 each (R104). -/
structure CommandAmounts where
  taken : Bool
  refused : Bool
  overrun : Bool
  resent : Bool
  deriving DecidableEq, Repr

/-- No command event. -/
def CommandAmounts.zero : CommandAmounts :=
  { taken := false, refused := false, overrun := false, resent := false }

/-- The Command Unit (section 6.1). -/
structure CommandUnit where
  address : Address
  response : ResponseRecord
  broadcastSeq : Option SequenceNumber
  params : Parameters
  inFlight : Option Request
  amounts : CommandAmounts
  deriving DecidableEq, Repr

/-- The Command Unit after power-on and the reset pin (R91). -/
def CommandUnit.reset : CommandUnit :=
  { address := 0, response := .empty, broadcastSeq := none, params := Parameters.default
    inFlight := none, amounts := CommandAmounts.zero }

/-! ### Response Arbiter and Notice Queue -/

/-- What the node wrote into the response region of the frame in flight (section 7.1). -/
inductive RegionItem where
  | none
  | response
  | notice (k : NoticeKind)
  deriving DecidableEq, Repr

/-- The Response Arbiter (section 7.1). -/
structure Arbiter where
  gap : Nat
  item : RegionItem
  written : Bool
  denied : Bool
  sentResponse : Bool
  deriving DecidableEq, Repr

/-- The Response Arbiter after every reset (R115). -/
def Arbiter.reset : Arbiter :=
  { gap := 0, item := .none, written := false, denied := false, sentResponse := false }

/-- The cause a RESTARTED notice carries (R123). -/
inductive RestartCause where
  | powerOrPin | unicastReset | broadcastReset
  deriving DecidableEq, Repr

/-- A notice with the values of its kind (R123). -/
inductive Notice where
  | restarted (cause : RestartCause)
  | syncLost (e : FrameNumber) (misses : Nat)
  | syncRegained (e : FrameNumber) (count : Nat)
  | numberJump (old received : FrameNumber)
  | commitDone (e lateness : FrameNumber) (bank : Bank)
  | outputExpired (mask : BitVec 8)
  | snapshotReady (e : FrameNumber) (depth : Nat) (serial : SequenceNumber)
  | snapshotLost (count : Nat)
  deriving DecidableEq, Repr

/-- The kind of a notice. -/
def Notice.kind : Notice → NoticeKind
  | .restarted _ => .restarted
  | .syncLost _ _ => .syncLost
  | .syncRegained _ _ => .syncRegained
  | .numberJump _ _ => .numberJump
  | .commitDone _ _ _ => .commitDone
  | .outputExpired _ => .outputExpired
  | .snapshotReady _ _ _ => .snapshotReady
  | .snapshotLost _ => .snapshotLost

/-- A notice record's state; the renewed mark belongs to QUEUED, the resend countdown to AWAITING (section 7.2). -/
inductive NoticeState where
  | queued (renewed : Bool)
  | awaiting (countdown : Nat)
  deriving DecidableEq, Repr

/-- A notice record (section 7.2). -/
structure NoticeRecord where
  notice : Notice
  seq : SequenceNumber
  repeats : Nat
  state : NoticeState
  deriving DecidableEq, Repr

/-- The kind of a record. -/
def NoticeRecord.kind (r : NoticeRecord) : NoticeKind := r.notice.kind

/-- The Notice Queue (section 7.2), records in queue order. -/
structure NoticeQueue where
  records : List NoticeRecord
  seqCounter : SequenceNumber
  dropped : Nat
  pendingDrops : Nat
  deriving DecidableEq, Repr

/-- The Notice Queue after power-on or the reset pin, before RESTARTED is raised (R122). -/
def NoticeQueue.reset : NoticeQueue :=
  { records := [], seqCounter := 0, dropped := 0, pendingDrops := 0 }

/-! ### Counter Bank and Snapshot Unit -/

/-- One event counter (section 8.1). -/
structure Counter where
  value : CounterValue
  control : CounterControl
  wrapFlag : Bool
  previous : Bool
  deriving DecidableEq, Repr

/-- A counter after every reset (R135, R136). -/
def Counter.reset : Counter :=
  { value := 0, control := CounterControl.zero, wrapFlag := false, previous := false }

/-- The amounts of one processed frame, handed in by the blocks at its end (R139). -/
structure FrameAmounts where
  slot : AmountTable 8
  channel : AmountTable 4
  node : Vector Nat 16
  deriving DecidableEq, Repr

/-- No amount. -/
def FrameAmounts.zero : FrameAmounts :=
  { slot := AmountTable.zero 8, channel := AmountTable.zero 4, node := Vector.replicate 16 0 }

/-- The Counter Bank (section 8.1); `gate` is true while RUNNING. -/
structure CounterBank where
  bank : Vector Counter 16
  gate : Bool
  frame : FrameAmounts
  deriving DecidableEq, Repr

/-- The Counter Bank after every reset (R135, R136). -/
def CounterBank.reset : CounterBank :=
  { bank := Vector.replicate 16 Counter.reset, gate := false, frame := FrameAmounts.zero }

/-- The causes of a capture (section 9.1). -/
structure Causes where
  command : Bool
  scheduled : Bool
  wrap : Bool
  syncLoss : Bool
  deriving DecidableEq, Repr

/-- A snapshot record (section 9.1). -/
structure SnapshotRecord where
  captureE : FrameNumber
  causes : Causes
  wrapMask : BitVec 16
  gate : Bool
  serial : SequenceNumber
  values : Vector CounterValue 16
  deriving DecidableEq, Repr

/-- The Snapshot Unit (section 9.1), records in order of capture; `scheduled` is the armed F. -/
structure SnapshotUnit where
  queue : List SnapshotRecord
  scheduled : Option FrameNumber
  serial : SequenceNumber
  lost : Nat
  syncLossMark : Bool
  deriving DecidableEq, Repr

/-- The Snapshot Unit after power-on and the reset pin (R153). -/
def SnapshotUnit.reset : SnapshotUnit :=
  { queue := [], scheduled := none, serial := 0, lost := 0, syncLossMark := false }

/-! ### The node -/

/-- The whole node, and the queue of happenings that wait for it. -/
structure State where
  link : LinkReceiver
  frame : Option FrameInFlight
  tx : Transmitter
  slots : SlotEngine
  map : MapStore
  inputs : Vector InputChannel 8
  outputs : Vector OutputChannel 8
  cmd : CommandUnit
  arb : Arbiter
  notices : NoticeQueue
  counters : CounterBank
  snaps : SnapshotUnit
  /-- the RESET pin is held low (R15) -/
  resetHeld : Bool
  pending : List Instr
  deriving DecidableEq, Repr

/-- The node stops with a fault: never. The manual names no condition that stops the node, so this type has no
constructor, nobody raises it, and that is safe (assumption 19). -/
inductive Fault where
  deriving DecidableEq, Repr

/-- A happening without a meaning. -/
inductive Refusal where
  /-- Raised by an arm of exec whose happening has no meaning yet; no arm raises it now. Safe: the model stops
  where the hardware goes on. -/
  | notModelled (mnemonic : String)
  deriving DecidableEq, Repr

/-- Every block at the values it takes at power-on and at the reset pin (R14, R35, R38, R55, R76, R82, R91,
R115, R122, R135, R153), with no notice raised yet. -/
def State.cold (line : LineOut) (held : Bool) : State :=
  { link := LinkReceiver.reset, frame := none, tx := { line := line, sent := [] }
    slots := SlotEngine.empty, map := MapStore.reset
    inputs := Vector.replicate 8 InputChannel.reset
    outputs := Vector.replicate 8 OutputChannel.unassigned
    cmd := CommandUnit.reset, arb := Arbiter.reset, notices := NoticeQueue.reset
    counters := CounterBank.reset, snaps := SnapshotUnit.reset, resetHeld := held, pending := [] }

/-- The notice queue once RESTARTED with cause 0 has been raised into an empty one (R122). -/
def NoticeQueue.restarted : NoticeQueue :=
  { records := [{ notice := .restarted .powerOrPin, seq := 0, repeats := 0, state := .queued false }]
    seqCounter := 1, dropped := 0, pendingDrops := 0 }

/-- The node at the moment power-on completes, at bit time 0: HUNT, start-up idle fill, RESTARTED queued
(R14, R15, R122; assumption 6). -/
def State.reset : State :=
  { State.cold (.startup 0) false with notices := NoticeQueue.restarted }

end Sys2Proof.Machine
end

