-- ==== Sys2Proof/Machine/Crc.lean ====
section
/-! DEFINITION. The check word: the cyclic redundancy check over words 1 to 75 and error carry (R11, R12). -/

namespace Sys2Proof.Machine

/-- One covered bit is fed to the remainder register (R11). -/
def crcBit (r : Word) (bit : Bool) : Word :=
  if r.msb ^^ bit then (r <<< 1) ^^^ Config.crcPolynomial else r <<< 1

/-- The top `n` bits of `w` are fed, most significant first (R11). -/
def crcBits : Nat → Word → Word → Word
  | 0, r, _ => r
  | n + 1, r, w => crcBits n (crcBit r w.msb) (w <<< 1)

/-- One whole word is fed. -/
def crcWord (r w : Word) : Word := crcBits 32 r w

/-- Several words are fed in sending order. -/
def crcWords (r : Word) (ws : List Word) : Word := ws.foldl crcWord r

/-- The check value: the ones' complement of the remainder (R11). -/
def crcValue (r : Word) : Word := ~~~r

/-- The CRC of a frame's content, words 1 to 75 (R11). -/
def crcOf (content : List Word) : Word := crcValue (crcWords Config.crcPreset content)

/-- A received frame's check passes when the check word equals the CRC of the received content (R11). -/
def checkPasses (content : List Word) (check : Word) : Bool := check == crcOf content

/-- The outbound check word of a forwarded frame, from the remainders over its outbound and received content
and the received check word (R12). -/
def errorCarry (tx rx check : Word) : Word := crcValue tx ^^^ (check ^^^ crcValue rx)

end Sys2Proof.Machine
end

