-- ==== Sys2Proof/Machine/Operands.lean ====
section
/-! DEFINITION. The layouts of the frame's words and of the records they carry (R2 to R9), the packing of
parameter and data words (R6), and the codes that stand in them. -/

namespace Sys2Proof.Machine

/-! ### Codes -/

/-- The two-bit code of a link state (R8). -/
def LinkState.code : LinkState → BitVec 2
  | .hunt => 0 | .verify => 1 | .locked => 2 | .flywheel => 3

/-- 0 for bank A, 1 for bank B (R8). -/
def Bank.bit : Bank → Bool
  | .a => false | .b => true

/-- The two-bit code of a response record state (R8). -/
def ResponseRecord.code : ResponseRecord → BitVec 2
  | .empty => 0 | .pending _ _ => 1 | .unsent _ => 2 | .sent _ => 3

/-- The two-bit code of an input channel state (R90). -/
def InputState.code : InputState → BitVec 2
  | .never => 0 | .fresh _ _ => 1 | .used _ => 2

/-- The two-bit code of an output channel state (R90). -/
def OutputChannel.code : OutputChannel → BitVec 2
  | .unassigned => 0 | .safe => 1 | .live _ _ => 2

/-- The code of a status, 00h to 0Bh (R5, R103). -/
def Status.code : Status → BitVec 8
  | .ok => 0x00#8 | .badCommand => 0x01#8 | .badParameter => 0x02#8 | .busy => 0x03#8
  | .commitLocked => 0x04#8 | .notArmed => 0x05#8 | .alreadyArmed => 0x06#8 | .mapConflict => 0x07#8
  | .noAddress => 0x08#8 | .queueEmpty => 0x09#8 | .aborted => 0x0A#8 | .staleAck => 0x0B#8

/-- The place of a notice kind among the eight, which is its bit of NOTICE_MASK (R112). -/
def noticeIndex : NoticeKind → Fin 8
  | .restarted => 0 | .syncLost => 1 | .syncRegained => 2 | .numberJump => 3
  | .commitDone => 4 | .outputExpired => 5 | .snapshotReady => 6 | .snapshotLost => 7

/-- The code of a notice kind, 80h to 87h (R5, R123). -/
def noticeCode (k : NoticeKind) : BitVec 8 := 0x80#8 + BitVec.ofNat 8 (noticeIndex k).val

/-- The cause field of RESTARTED (R123). -/
def RestartCause.code : RestartCause → Nat
  | .powerOrPin => 0 | .unicastReset => 1 | .broadcastReset => 2

/-- The 21 commands in the order of the command summary (section 6.6). -/
def commands : List CommandName :=
  [.identify, .assignAddress, .nodeReset, .readStatus, .setParameter, .getParameter,
   .writeEntries, .readEntries, .copyActive, .commit, .cancelCommit, .acknowledgeNotice,
   .setCounter, .getCounterControl, .readCounters, .clearCounters, .gate,
   .takeSnapshot, .cancelSnapshot, .readSnapshot, .releaseSnapshot]

/-- The numeric code of a command (R4): free, one for each command (assumption 1). -/
def commandCode (n : CommandName) : BitVec 8 := Config.codeOrder (BitVec.ofNat 8 (commands.idxOf n))

/-- The command that a code names, none for a code that names no command of the L64 (R4; assumption 1). -/
def commandOfCode (code : BitVec 8) : Option CommandName := commands[(Config.codeOrder.symm code).toNat]?

/-- The row of a slot source in a slot amount table, which is its source code (R137). -/
def SlotSource.row : SlotSource → Fin 8
  | .emptyIn => 0 | .staleIn => 1 | .foreign => 2 | .inserted => 3
  | .filled => 4 | .fillSkipped => 5 | .tapped => 6 | .cleared => 7

/-- The row of a channel source in a channel amount table; its source code is 8 more (R137). -/
def ChannelSource.row : ChannelSource → Fin 4
  | .arrived => 0 | .overwritten => 1 | .updated => 2 | .safe => 3

/-- The place of a node source among the sixteen; its source code is 12 more (R137). -/
def NodeSource.row : NodeSource → Fin 16
  | .frameGood => 0 | .frameDamaged => 1 | .frameRegenerated => 2 | .framePassedRegenerated => 3
  | .syncMiss => 4 | .frameDropped => 5 | .numberJump => 6 | .commandTaken => 7
  | .commandRefused => 8 | .commandOverrun => 9 | .regionWritten => 10 | .regionDenied => 11
  | .responseSent => 12 | .responseResent => 13 | .noticeDropped => 14 | .always => 15

/-- The source code of an event source (R137). -/
def EventSource.code : EventSource → BitVec 5
  | .slot s => BitVec.ofNat 5 s.row.val
  | .channel s => BitVec.ofNat 5 (8 + s.row.val)
  | .node s => BitVec.ofNat 5 (12 + s.row.val)

/-- The sources in the order of their codes 0 to 27 (R137). -/
def EventSource.all : List EventSource :=
  [.slot .emptyIn, .slot .staleIn, .slot .foreign, .slot .inserted,
   .slot .filled, .slot .fillSkipped, .slot .tapped, .slot .cleared,
   .channel .arrived, .channel .overwritten, .channel .updated, .channel .safe,
   .node .frameGood, .node .frameDamaged, .node .frameRegenerated, .node .framePassedRegenerated,
   .node .syncMiss, .node .frameDropped, .node .numberJump, .node .commandTaken,
   .node .commandRefused, .node .commandOverrun, .node .regionWritten, .node .regionDenied,
   .node .responseSent, .node .responseResent, .node .noticeDropped, .node .always]

/-- The source of a code, none for codes 28 to 31 (R137). -/
def EventSource.ofCode (b : BitVec 5) : Option EventSource := EventSource.all[b.toNat]?

/-! ### The header word (R2) -/

/-- The frame number field. -/
def headerNumber (w : Word) : FrameNumber := w.extractLsb' 14 18

/-- The regenerated bit. -/
def headerRegenerated (w : Word) : Bool := w.getLsbD 13

/-- The originator field. -/
def headerOriginator (w : Word) : Address := w.extractLsb' 7 6

/-- The reservation field. -/
def headerReservation (w : Word) : Address := w.extractLsb' 1 6

/-- The command present bit. -/
def headerCommandPresent (w : Word) : Bool := w.getLsbD 0

/-- The header word a node builds for a regenerated frame: frame number E, regenerated 1, originator its own
address, reservation 0, command present 0 (R2, R26). -/
def builtHeader (e : FrameNumber) (address : Address) : Word :=
  e ++ 1#1 ++ address ++ 0#6 ++ 0#1

/-! ### Slot words (R3) -/

/-- The empty slot. -/
def emptySlot : Word := 0#32

/-- The valid bit: the slot holds a sample. -/
def slotValid (w : Word) : Bool := w.getLsbD 31

/-- The stale bit. -/
def slotStale (w : Word) : Bool := w.getLsbD 30

/-- The source field. -/
def slotSource (w : Word) : Address := w.extractLsb' 24 6

/-- The value field. -/
def slotValue (w : Word) : Sample := w.extractLsb' 0 24

/-- A slot that holds a sample or the status word as the node writes it: valid 1, the stale bit, the node's
address as source, the value (R3). -/
def sampleSlot (stale : Bool) (address : Address) (v : Sample) : Word :=
  1#1 ++ BitVec.ofBool stale ++ address ++ v

/-! ### The region header words (R4, R5) -/

/-- The target field of a command region header. -/
def commandTarget (w : Word) : Address := w.extractLsb' 26 6

/-- The sequence field of a command region header. -/
def commandSequence (w : Word) : SequenceNumber := w.extractLsb' 18 8

/-- The command code field of a command region header, as the command it names. -/
def commandName (w : Word) : Option CommandName := commandOfCode (w.extractLsb' 10 8)

/-- The parameter count field of a command region header, 0 to 7. -/
def commandCount (w : Word) : Nat := (w.extractLsb' 7 3).toNat

/-- The tag field of a command region header. -/
def commandTag (w : Word) : Tag := w.extractLsb' 0 7

/-- A command region header with its target field rewritten to 62 and every other bit as received (R94). -/
def claimedHeader (w : Word) : Word := 62#6 ++ w.extractLsb' 0 26

/-- The source field of a response region header; 0 is a free region (R5). -/
def regionSource (w : Word) : Address := w.extractLsb' 26 6

/-- A response region header as the node writes it (R5). -/
def regionHeader (address : Address) (seq : SequenceNumber) (code : BitVec 8) (count : Nat) (tag : Tag) : Word :=
  address ++ seq ++ code ++ BitVec.ofNat 3 count ++ tag

/-- Four data words: the item's data, and zero at and beyond the data count (R5). -/
def padData (data : List Word) : List Word := (data ++ [0, 0, 0, 0]).take 4

/-! ### Map entries (R7) -/

/-- The action of an action code, none for code 7 (R7). -/
def MapAction.ofCode (b : BitVec 3) : Option MapAction :=
  [.pass, .clear, .insert, .fill, .tap, .drain, .status][b.toNat]?

/-- The action code (R7). -/
def MapAction.code : MapAction → BitVec 3
  | .pass => 0 | .clear => 1 | .insert => 2 | .fill => 3 | .tap => 4 | .drain => 5 | .status => 6

/-- The 16-bit form of an entry (R7). -/
def MapEntry.bits (e : MapEntry) : BitVec 16 :=
  e.action.code ++ BitVec.ofNat 3 e.channel.val ++ BitVec.ofNat 3 e.cls.val ++ BitVec.ofBool e.expect ++ e.source

/-- A three-bit field as a channel or a class. -/
def fin8 (b : BitVec 3) : Fin 8 := ⟨b.toNat, b.isLt⟩

/-- The entry of a 16-bit form, none for action code 7 (R7). -/
def MapEntry.ofBits (b : BitVec 16) : Option MapEntry :=
  (MapAction.ofCode (b.extractLsb' 13 3)).map fun a =>
    { action := a, channel := fin8 (b.extractLsb' 10 3), cls := fin8 (b.extractLsb' 7 3)
      expect := b.getLsbD 6, source := b.extractLsb' 0 6 }

/-- The two 16-bit halves of an entry word, the lower-numbered slot's first (R7). -/
def entryHalves (w : Word) : List (BitVec 16) := [w.extractLsb' 16 16, w.extractLsb' 0 16]

/-- Entries packed two to a word, zero in the lower half of a last odd word (R7). -/
def packEntries : List MapEntry → List Word
  | [] => []
  | [e] => [e.bits ++ 0#16]
  | e :: f :: rest => (e.bits ++ f.bits) :: packEntries rest

/-! ### Counter control words (R9) -/

/-- The 32-bit form of a control word, bits 5 to 0 zero (R9). -/
def CounterControl.bits (c : CounterControl) : Word :=
  c.source.code ++ c.mask ++ c.threshold ++ BitVec.ofBool (c.sense == .below) ++ BitVec.ofBool c.edge
    ++ BitVec.ofBool c.enable ++ BitVec.ofBool c.snapOnWrap ++ BitVec.ofBool c.clearOnCapture ++ 0#6

/-- The control word of a 32-bit form, bits 5 to 0 ignored; none for a source code that names no source (R9, R144). -/
def CounterControl.ofBits (w : Word) : Option CounterControl :=
  (EventSource.ofCode (w.extractLsb' 27 5)).map fun src =>
    { source := src, mask := w.extractLsb' 19 8, threshold := w.extractLsb' 11 8
      sense := if w.getLsbD 10 then .below else .atLeast, edge := w.getLsbD 9, enable := w.getLsbD 8
      snapOnWrap := w.getLsbD 7, clearOnCapture := w.getLsbD 6 }

/-! ### Numbers in parameter and data words (R6) -/

/-- A frame number in bits 17 to 0, the other bits zero. -/
def frameWord (n : FrameNumber) : Word := n.zeroExtend 32

/-- The frame number a parameter word carries; bits 31 to 18 are ignored. -/
def wordFrame (w : Word) : FrameNumber := w.extractLsb' 0 18

/-- A signed 24-bit value in bits 23 to 0, the other bits copies of bit 23. -/
def sampleWord (v : Sample) : Word := v.signExtend 32

/-- The signed 24-bit value a parameter word carries; bits 31 to 24 are ignored. -/
def wordSample (w : Word) : Sample := w.extractLsb' 0 24

/-- A 40-bit value as two words. -/
def valueWords (v : CounterValue) : List Word := [(v.extractLsb' 32 8).zeroExtend 32, v.extractLsb' 0 32]

/-- The 40-bit value of two words; bits 31 to 8 of the first are ignored. -/
def wordsValue (hi lo : Word) : CounterValue := hi.extractLsb' 0 8 ++ lo

/-- An unsigned number filling a whole word. -/
def numWord (n : Nat) : Word := BitVec.ofNat 32 n

/-- A mask whose bit i is `p i`, written from bit 0 up. -/
def maskOf (n : Nat) (p : Fin n → Bool) : BitVec n := BitVec.ofFnLE p

/-! ### Notices as written (R123) -/

/-- The data words of a notice, before the dropped count is placed (R123). -/
def Notice.words : Notice → List Word
  | .restarted cause => [numWord cause.code]
  | .syncLost e misses => [frameWord e, (BitVec.ofNat 4 misses).zeroExtend 32]
  | .syncRegained e count => [frameWord e, (BitVec.ofNat 24 count).zeroExtend 32]
  | .numberJump old received => [frameWord old, frameWord received]
  | .commitDone e lateness bank => [frameWord e, frameWord lateness, (BitVec.ofBool bank.bit).zeroExtend 32]
  | .outputExpired mask => [mask.zeroExtend 32]
  | .snapshotReady e depth serial => [frameWord e, (BitVec.ofNat 3 depth ++ serial).zeroExtend 32]
  | .snapshotLost count => [(BitVec.ofNat 8 count).zeroExtend 32]

/-- The dropped count placed in bits 31 to 24 of the last data word (R5, R123, R131). -/
def placeDropped (dropped : Nat) : List Word → List Word
  | [] => []
  | [w] => [BitVec.ofNat 8 dropped ++ w.extractLsb' 0 24]
  | w :: rest => w :: placeDropped dropped rest

/-- The five words of the response region that carry an answer (R99, R117). -/
def responseWords (address : Address) (a : Answer) : List Word :=
  regionHeader address a.seq a.status.code a.data.length a.tag :: padData a.data

/-- The five words of the response region that carry a notice, with the dropped count of the moment of
writing (R117, R123). -/
def noticeWords (address : Address) (dropped : Nat) (r : NoticeRecord) : List Word :=
  regionHeader address r.seq (noticeCode r.kind) r.notice.words.length (BitVec.ofNat 7 r.repeats)
    :: padData (placeDropped dropped r.notice.words)

end Sys2Proof.Machine
end

