-- ==== Sys2Proof/Machine/Ops.lean ====
section
/-! DEFINITION. The operations the happenings share: frame-number comparison, happenings under the reset pin, the
map banks, the notice queue, the start of a processed frame, and the words of the frame in flight. -/

namespace Sys2Proof.Machine

/-! ### A happening and the reset pin -/

/-- A happening takes the node to `t`; while the reset pin is held low every block is held and nothing
happens (R15, R76, R91, R122, R135, R153). -/
def happens (s t : State) : Host.Outcome State Fault Refusal :=
  .next (if s.resetHeld then s else t)

/-! ### Frame numbers (R13) -/

/-- `n` is at or past `f` (R13). -/
def atOrPast (n f : FrameNumber) : Bool := decide ((n - f).toNat < Config.halfSpace)

/-- The distance from `a` to `b` (R13). -/
def distance (a b : FrameNumber) : FrameNumber := b - a

/-! ### Lists -/

/-- `f` is applied to the first element that satisfies `p`. -/
def modifyFirst {α : Type} (p : α → Bool) (f : α → α) : List α → List α
  | [] => []
  | x :: xs => if p x then f x :: xs else x :: modifyFirst p f xs

/-! ### The node's own views -/

/-- The unicast sequence: the sequence of the last unicast or claimed command executed (R91, R99). -/
def ResponseRecord.sequence : ResponseRecord → Option SequenceNumber
  | .empty => none
  | .pending q _ => some q
  | .unsent a => some a.seq
  | .sent a => some a.seq

/-- The LINK OK pin is high while LOCKED, and low while the reset pin is held (R15, R24). -/
def State.linkOk (s : State) : Bool := s.link.state == .locked && !s.resetHeld

/-- The value output lane `c` presents: the live value while LIVE, the safe value otherwise (R82). -/
def State.sout (s : State) (c : Channel) : Sample :=
  match s.outputs[c] with
  | .live v _ => v
  | .safe => s.cmd.params.safeValue[c]
  | .unassigned => s.cmd.params.safeValue[c]

/-- An output channel is in SAFE (section 5.2). -/
def OutputChannel.isSafe : OutputChannel → Bool
  | .safe => true
  | .unassigned => false
  | .live _ _ => false

/-- The SAFE mask: bit c is 1 when output channel c is in SAFE (R85). -/
def safeMask (o : Vector OutputChannel 8) : BitVec 8 := maskOf 8 fun c => o[c].isSafe

/-- The number of output channels in SAFE (R90). -/
def safeCount (o : Vector OutputChannel 8) : Nat := o.toList.countP OutputChannel.isSafe

/-! ### Map banks (R34 to R36) -/

/-- The other bank. -/
def Bank.other : Bank → Bank
  | .a => .b | .b => .a

/-- The contents of a bank. -/
def MapStore.bank (m : MapStore) : Bank → MapBank
  | .a => m.bankA | .b => m.bankB

/-- The map with one bank's contents replaced. -/
def MapStore.setBank (m : MapStore) (k : Bank) (v : MapBank) : MapStore :=
  match k with
  | .a => { m with bankA := v }
  | .b => { m with bankB := v }

/-- The map at a header time: after a NODE RESET both banks take the reset contents, bank A active (R35, R55). -/
def MapStore.atHeader (m : MapStore) : MapStore :=
  if m.resetDue then
    { m with bankA := MapBank.allPass, bankB := MapBank.allPass, active := .a, resetDue := false }
  else m

/-- The map once a NODE RESET is taken: nothing armed, no copy running, and the banks as they stand until the next
header time (R35, R55). -/
def MapStore.nodeReset (m : MapStore) : MapStore := { m with commit := none, copy := none, resetDue := true }

/-- The contents of the shadow bank. -/
def MapStore.shadow (m : MapStore) : MapBank := m.bank m.active.other

/-- The entry is TAP or DRAIN: it names its channel as an output channel (R36). -/
def MapEntry.taps (e : MapEntry) : Bool := e.action == .tap || e.action == .drain

/-- Some TAP or DRAIN entry of the bank names output channel `c` (section 5.2). -/
def namesOutput (v : MapBank) (c : Channel) : Bool := v.toList.any fun e => e.taps && e.channel == c

/-- Two entries are in conflict: both TAP or DRAIN, and of one output channel (R68). -/
def MapEntry.conflicts (e f : MapEntry) : Bool := e.taps && f.taps && e.channel == f.channel

/-- The lowest slot in conflict and the lowest slot above it that conflicts with it (R68). -/
def conflictPair (v : MapBank) : Option (SlotNumber × SlotNumber) :=
  (List.finRange 64).findSome? fun i =>
    ((List.finRange 64).find? fun j => decide (i < j) && v[i].conflicts v[j]).map fun j => (i, j)

/-! ### Notices (R124 to R131) -/

/-- The repeat count rises by 1, saturating at 127 (R125). -/
def bumpRepeats (n : Nat) : Nat := min 127 (n + 1)

/-- A raising folded into the record of its kind (R124); `isWritten` says whether the record is the item
written in the frame in flight, `next` is the next sequence number. -/
def NoticeRecord.fold (isWritten : Bool) (next : SequenceNumber) (n : Notice) (r : NoticeRecord) : NoticeRecord :=
  match r.state with
  | .queued renewed =>
    { r with notice := n, repeats := bumpRepeats r.repeats, state := .queued (renewed || isWritten) }
  | .awaiting _ =>
    { notice := n, seq := next, repeats := bumpRepeats r.repeats, state := .queued false }

/-- The record waits for the head's acknowledgement. -/
def NoticeRecord.isAwaiting (r : NoticeRecord) : Bool :=
  match r.state with
  | .awaiting _ => true
  | .queued _ => false

/-- The record waits to be sent. -/
def NoticeRecord.isQueued (r : NoticeRecord) : Bool := !r.isAwaiting

/-- A notice is raised: masked, folded into its kind's record, appended, or dropped (R124, R125, R131). -/
def NoticeQueue.raise (q : NoticeQueue) (mask : BitVec 8) (item : RegionItem) (n : Notice) : NoticeQueue :=
  if !mask.getLsbD (noticeIndex n.kind).val then q
  else match q.records.find? fun r => r.kind == n.kind with
    | some r =>
      { q with
        records := modifyFirst (fun r => r.kind == n.kind)
          (NoticeRecord.fold (item == .notice n.kind) q.seqCounter n) q.records
        seqCounter := if r.isAwaiting then q.seqCounter + 1 else q.seqCounter }
    | none =>
      if q.records.length < Config.noticePlaces then
        { q with
          records := q.records ++ [{ notice := n, seq := q.seqCounter, repeats := 0, state := .queued false }]
          seqCounter := q.seqCounter + 1 }
      else
        { q with dropped := min 255 (q.dropped + 1), pendingDrops := q.pendingDrops + 1 }

/-- A block hands a notice to the Notice Queue, under the mask then held (R124). -/
def State.raise (s : State) (n : Notice) : State :=
  { s with notices := s.notices.raise s.cmd.params.noticeMask s.arb.item n }

/-! ### The start of a processed frame (R10, R25) -/

/-- The moment from which the outbound link is free: when the last bit of the frame being sent has left, or
at once while idle fill is sent (R27; assumption 7). -/
def LineOut.freeFrom : LineOut → BitTime
  | .held t => t
  | .startup t => t
  | .relockFill t => t
  | .frame start _ => start + Config.frameBits

/-- A processed frame begins, its first bit leaving at `start`, with its sync word sent and its header yet to
pass (R1, R25). The line carries idle fill in between. -/
def State.beginFrame (s : State) (regenerated : Bool) (start : BitTime) : State :=
  { s with
    frame := some
      { regenerated := regenerated, pos := 1, number := s.link.E, header := 0, bank := s.map.active
        rxCrc := Config.crcPreset, txCrc := Config.crcPreset }
    tx := { line := .frame start (start - s.tx.line.freeFrom), sent := [Config.syncWord] } }

/-! ### Words of the frame in flight (R10 to R12) -/

/-- Inbound words `rx` have passed and outbound words `out` are sent in their place; both remainders take them. -/
def FrameInFlight.pass (f : FrameInFlight) (rx out : List Word) : FrameInFlight :=
  { f with pos := f.pos + out.length, rxCrc := crcWords f.rxCrc rx, txCrc := crcWords f.txCrc out }

/-- The state with the frame in flight moved past `rx`, and `out` sent. -/
def State.passWords (s : State) (f : FrameInFlight) (rx out : List Word) : State :=
  { s with frame := some (f.pass rx out), tx := { s.tx with sent := s.tx.sent ++ out } }

end Sys2Proof.Machine
end

