-- ==== Sys2Proof/Machine/Link.lean ====
section
/-! DEFINITION. Resets and start-up, and the happenings of the inbound link (R14 to R28): POWER_ON to
SYNC_FOUND_ELSEWHERE_IN_FLYWHEEL. A happening whose occasion is absent changes nothing (assumption 3). -/

namespace Sys2Proof.Machine

/-! ### Resets and start-up (R14, R15, R25) -/

/-- The node begins at bit time `t` after power-on or release: every block at its reset values, the start-up
idle fill begun, RESTARTED with cause 0 raised (R14, R15, R122). -/
def State.started (t : BitTime) : State :=
  (State.cold (.startup t) false).raise (.restarted .powerOrPin)

/-- Power-on completes at bit time `t`; with the pin held low the blocks stay held (R14, R15; assumption 14). -/
def execPowerOn (t : BitTime) (s : State) : Host.Outcome State Fault Refusal :=
  .next { (if s.resetHeld then State.cold (.held t) true else State.started t) with pending := s.pending }

/-- The reset pin is driven low at bit time `t`: the frame being sent is cut off and has no end, and every block
takes and is held at its reset values (R15). -/
def execResetPinLow (t : BitTime) (s : State) : Host.Outcome State Fault Refusal :=
  happens s { State.cold (.held t) true with pending := s.pending }

/-- The reset pin is released at bit time `t` (R15, R122). -/
def execResetPinRelease (t : BitTime) (s : State) : Host.Outcome State Fault Refusal :=
  .next (if s.resetHeld then { State.started t with pending := s.pending } else s)

/-- The start-up idle fill runs out and the first regenerated frame begins (R15, R25). -/
def execStartupIdleFillEnds (s : State) : Host.Outcome State Fault Refusal :=
  happens s <| match s.tx.line, s.frame with
    | .startup since, none => s.beginFrame true (since + Config.startupFill)
    | _, _ => s

/-- In HUNT and VERIFY the next regenerated frame begins as the last bit of the previous frame leaves (R25). -/
def execRegeneratedFrameStart (s : State) : Host.Outcome State Fault Refusal :=
  happens s <| match s.tx.line, s.frame with
    | .frame start _, none =>
      if s.link.state == .hunt || s.link.state == .verify then s.beginFrame true (start + Config.frameBits) else s
    | _, _ => s

/-! ### Loss of sync and return to HUNT (R16, R17, R22) -/

/-- The lost flag is set, the unlocked-frame count cleared, SYNC_LOST raised, and the loss signalled to the
Snapshot Unit (R22, R154). -/
def State.loseSync (s : State) : State :=
  State.raise
    { s with
      link := { s.link with lostFlag := true, unlocked := 0 }
      snaps := { s.snaps with syncLossMark := true } }
    (.syncLost s.link.E s.link.missCount)

/-- The Link Receiver in HUNT, with neither position held; miss count, lost flag and unlocked-frame count stand
(R16). -/
def LinkReceiver.toHunt (l : LinkReceiver) : LinkReceiver :=
  { l with
    state := .hunt, expectedPos := none, candidatePos := none, candidateChecked := false
    relockWait := false, verifiedHere := false }

/-- A verification fails: back to HUNT, and R22 applies if the lost flag is clear (R17). -/
def State.failVerify (s : State) : State :=
  let t := { s with link := s.link.toHunt }
  if s.link.lostFlag then t else t.loseSync

/-- The flywheel limit is reached: HUNT, and R22 applies (R19, R20). -/
def State.giveUp (s : State) : State := State.loseSync { s with link := s.link.toHunt }

/-! ### HUNT and VERIFY (R16, R17, R27, R28) -/

/-- A sync word at `p` becomes the candidate and its frame is dropped (R16, R17, R20). -/
def LinkReceiver.toVerify (l : LinkReceiver) (p : BitTime) : LinkReceiver :=
  { l with
    state := .verify, expectedPos := none, candidatePos := some p, candidateChecked := false
    relockWait := false, verifiedHere := false, pendDropped := l.pendDropped + 1 }

/-- In HUNT a sync word is found at `p` (R16, R17). -/
def execSyncFoundInHunt (p : BitTime) (s : State) : Host.Outcome State Fault Refusal :=
  happens s <| if s.link.state == .hunt then { s with link := s.link.toVerify p } else s

/-- In VERIFY the candidate's words 1 to 75 and its check word have arrived (R17). -/
def execCandidateCheckWord (content : List Word) (check : Word) (s : State) : Host.Outcome State Fault Refusal :=
  happens s <|
    if s.link.state == .verify && !s.link.candidateChecked then
      if checkPasses content check then { s with link := { s.link with candidateChecked := true } }
      else s.failVerify
    else s

/-- Entry to LOCKED from VERIFY at `p`, the position of the second sync word: miss count 0, candidate position
cleared (R17); with the lost flag set, SYNC_REGAINED is raised with the count as it stands and the flag
cleared (R28). -/
def State.lockAt (s : State) (p : BitTime) : State :=
  let t := { s with link := { s.link with
    state := .locked, missCount := 0, expectedPos := some p, candidatePos := none
    candidateChecked := false, verifiedHere := true, lostFlag := false } }
  if s.link.lostFlag then t.raise (.syncRegained s.link.E s.link.unlocked) else t

/-- The relock rule for the inbound frame at `p` (R27): it is forwarded when no frame is in progress at its
outbound start, and dropped otherwise; while the node waits, idle fill follows the frame in progress. -/
def State.relock (s : State) (p : BitTime) : State :=
  if s.frame.isNone && decide (s.tx.line.freeFrom ≤ p + Config.forwardDelay) then
    State.beginFrame { s with link := { s.link with relockWait := false } } false (p + Config.forwardDelay)
  else
    { s with
      link := { s.link with relockWait := true, pendDropped := s.link.pendDropped + 1 }
      tx := if s.frame.isNone then { s.tx with line := .relockFill s.tx.line.freeFrom } else s.tx }

/-- In VERIFY, the candidate's check having passed, the 32 bits at P + 2,464 have arrived (R17, R27, R28). -/
def execSecondSyncJudged (window : Word) (s : State) : Host.Outcome State Fault Refusal :=
  happens s <|
    match s.link.candidatePos with
    | some p =>
      if s.link.state == .verify && s.link.candidateChecked then
        if window == Config.syncWord then
          (s.lockAt (p + Config.frameBits)).relock (p + Config.frameBits)
        else s.failVerify
      else s
    | none => s

/-! ### LOCKED and FLYWHEEL (R18 to R21, R27) -/

/-- Where the next inbound sync word is judged: the expected position, or one frame length on where the sync
word at it has been found already, by the verification (R17, R18; assumption 8). -/
def LinkReceiver.due (l : LinkReceiver) : Option BitTime :=
  l.expectedPos.map fun p => if l.verifiedHere then p + Config.frameBits else p

/-- The sync word is found at `p`: LOCKED, the miss count cleared, the expected position moved on (R18, R20). -/
def LinkReceiver.foundAt (l : LinkReceiver) (p : BitTime) : LinkReceiver :=
  { l with
    state := .locked, missCount := 0, expectedPos := some (p + Config.frameBits), verifiedHere := false }

/-- The sync word is missed at `p` and `n` is the miss count after it: one SYNC_MISS event, the expected
position moved on, the wait of the relock rule over (R19, R20, R27). -/
def LinkReceiver.missedAt (l : LinkReceiver) (p : BitTime) (n : Nat) : LinkReceiver :=
  { l with
    state := .flywheel, missCount := n, expectedPos := some (p + Config.frameBits), verifiedHere := false
    relockWait := false, pendMiss := l.pendMiss + 1 }

/-- A sync word is missed at `p`: a regenerated frame begins in place of the missing one, and the node is in
FLYWHEEL, or gives up at the limit in force (R19 to R21, R25). -/
def State.missSync (s : State) (p : BitTime) (n : Nat) : State :=
  let t := State.beginFrame { s with link := s.link.missedAt p n } true (p + Config.forwardDelay)
  if n < s.cmd.params.flywheelLimit then t else t.giveUp

/-- In LOCKED the sync word is found at the expected position (R18); while the node waits after a
verification, the relock rule decides the frame (R27). -/
def execSyncFoundInLocked (s : State) : Host.Outcome State Fault Refusal :=
  happens s <|
    match s.link.due, s.frame with
    | some p, none =>
      if s.link.state == .locked then
        let t := { s with link := s.link.foundAt p }
        if s.link.relockWait then t.relock p else t.beginFrame false (p + Config.forwardDelay)
      else s
    | _, _ => s

/-- In LOCKED the sync word is missed at the expected position (R19). -/
def execSyncMissInLocked (s : State) : Host.Outcome State Fault Refusal :=
  happens s <|
    match s.link.due, s.frame with
    | some p, none => if s.link.state == .locked then s.missSync p 1 else s
    | _, _ => s

/-- In FLYWHEEL the sync word is found at the expected position (R20). -/
def execSyncFoundInFlywheel (s : State) : Host.Outcome State Fault Refusal :=
  happens s <|
    match s.link.due, s.frame with
    | some p, none =>
      if s.link.state == .flywheel then
        State.beginFrame { s with link := s.link.foundAt p } false (p + Config.forwardDelay)
      else s
    | _, _ => s

/-- In FLYWHEEL the sync word is missed again (R20). -/
def execSyncMissInFlywheel (s : State) : Host.Outcome State Fault Refusal :=
  happens s <|
    match s.link.due, s.frame with
    | some p, none => if s.link.state == .flywheel then s.missSync p (s.link.missCount + 1) else s
    | _, _ => s

/-- In FLYWHEEL a sync word is found at a position other than the expected one (R20). -/
def execSyncFoundElsewhereInFlywheel (p : BitTime) (s : State) : Host.Outcome State Fault Refusal :=
  happens s <|
    if s.link.state == .flywheel && s.link.due != some p then { s with link := s.link.toVerify p } else s

end Sys2Proof.Machine
end

