-- ==== Sys2Proof/Machine/Flags.lean ====
section
/-! DEFINITION. What the node shows of itself: the status word (R8), the four READ STATUS words (R111), and the
event amounts that stand for flags in this part (R104, R118, R137). -/

namespace Sys2Proof.Machine

/-- 1 for an event that happened, 0 otherwise. -/
def once (b : Bool) : Nat := if b then 1 else 0

/-- The status word of R8, as it stands at this moment (R48). -/
def State.statusWord (s : State) : Sample :=
  s.link.state.code ++ BitVec.ofBool s.map.commit.isSome ++ BitVec.ofBool s.map.active.bit
    ++ BitVec.ofBool s.map.copy.isSome ++ s.cmd.response.code ++ BitVec.ofNat 3 s.notices.records.length
    ++ BitVec.ofNat 3 s.snaps.queue.length ++ BitVec.ofBool s.counters.gate
    ++ BitVec.ofNat 4 (safeCount s.outputs) ++ s.cmd.address

/-- The 16 bits of eight 2-bit states, channel c in bits 2c + 1 and 2c (R90, R111). -/
def stateCodes (code : Channel → BitVec 2) : BitVec 16 :=
  code 7 ++ code 6 ++ code 5 ++ code 4 ++ code 3 ++ code 2 ++ code 1 ++ code 0

/-- The four READ STATUS words, as the state stands (R111). -/
def State.statusWords (s : State) : List Word :=
  [ s.link.state.code ++ BitVec.ofBool s.link.lostFlag ++ BitVec.ofBool s.map.commit.isSome
      ++ BitVec.ofBool s.map.active.bit ++ BitVec.ofBool s.map.copy.isSome ++ BitVec.ofBool s.counters.gate
      ++ 0#7 ++ s.link.E,
    BitVec.ofNat 3 s.notices.records.length ++ BitVec.ofNat 3 s.snaps.queue.length ++ 0#2
      ++ BitVec.ofNat 24 s.link.unlocked,
    frameWord (s.map.commit.getD 0),
    stateCodes (fun c => s.outputs[c].code) ++ stateCodes (fun c => s.inputs[c].state.code) ]

/-- One amount of a table rises by `n`. -/
def AmountTable.add {k : Nat} (t : AmountTable k) (row : Fin k) (c : Fin 8) (n : Nat) : AmountTable k :=
  t.set row (t[row].set c (t[row][c] + n))

/-- A row of a table is replaced. -/
def AmountTable.putRow {k : Nat} (t : AmountTable k) (row : Fin k) (f : Fin 8 → Nat) : AmountTable k :=
  t.set row (Vector.ofFn f)

/-- One slot event is added under a class (R49). -/
def SlotEngine.count (e : SlotEngine) (src : SlotSource) (cls : MonitorClass) : SlotEngine :=
  { e with amounts := AmountTable.add e.amounts src.row cls 1 }

/-- A block hands in the amount of one node source (R139). -/
def FrameAmounts.putNode (a : FrameAmounts) (src : NodeSource) (n : Nat) : FrameAmounts :=
  { a with node := a.node.set src.row n }

/-- Sample Channels hands in the amounts of one channel source (R89, R139). -/
def FrameAmounts.putChannel (a : FrameAmounts) (src : ChannelSource) (f : Channel → Nat) : FrameAmounts :=
  { a with channel := AmountTable.putRow a.channel src.row f }

/-- The sum of a row over the classes or channels whose mask bits are 1 (R138). -/
def maskedSum (mask : BitVec 8) (row : Vector Nat 8) : Nat :=
  ((List.finRange 8).map fun c => if mask.getLsbD c.val then row[c] else 0).sum

/-- A counter's amount for the frame, from its source and mask (R138). -/
def FrameAmounts.amount (a : FrameAmounts) (c : CounterControl) : Nat :=
  match c.source with
  | .slot s => maskedSum c.mask a.slot[s.row]
  | .channel s => maskedSum c.mask a.channel[s.row]
  | .node s => a.node[s.row]

end Sys2Proof.Machine
end

