-- ==== Sys2Proof/Machine/Samples.lean ====
section
/-! DEFINITION. Sample Channels (R76 to R90): arrivals and reads of input channels, and what a commit, a frame end,
a parameter and a reset do to the channels. The row SAMPLE_ARRIVAL. -/

namespace Sys2Proof.Machine

/-! ### Input channels (R77 to R81) -/

/-- An amount that saturates at 255 rises by 1 (section 5.1). -/
def bump255 (n : Nat) : Nat := min 255 (n + 1)

/-- The channel is FRESH. -/
def InputState.isFresh : InputState → Bool
  | .fresh _ _ => true
  | .never => false
  | .used _ => false

/-- A whole sample arrives: FRESH with the mark clear, one arrival, and one overwrite if the channel was FRESH
(R77). -/
def InputChannel.arrive (c : InputChannel) (v : Sample) : InputChannel :=
  { state := .fresh v false
    arrived := bump255 c.arrived
    overwritten := if c.state.isFresh then bump255 c.overwritten else c.overwritten }

/-- A whole sample arrives on input lane `c` (R77); while the reset pin is held the lanes are not sampled (R76). -/
def execSampleArrival (c : Channel) (v : Sample) (s : State) : Host.Outcome State Fault Refusal :=
  happens s { s with inputs := s.inputs.set c (s.inputs[c].arrive v) }

/-- A read by INSERT or FILL marks a FRESH sample delivered and changes nothing else (R78). -/
def InputState.read : InputState → InputState
  | .fresh v _ => .fresh v true
  | .used v => .used v
  | .never => .never

/-- The freshness update of a frame end: a marked sample becomes USED (R79). -/
def InputState.settle : InputState → InputState
  | .fresh v true => .used v
  | .fresh v false => .fresh v false
  | .used v => .used v
  | .never => .never

/-- An input channel at a frame end: its amounts have been delivered and are 0, and the freshness update is made
(R79, R89). -/
def InputChannel.frameEnd (c : InputChannel) : InputChannel :=
  { state := c.state.settle, arrived := 0, overwritten := 0 }

/-! ### Output channels (R83 to R88) -/

/-- The value of the record that decides the channel among records applied in order (R84). -/
def tapFor (taps : List TapRecord) (c : Channel) : Option Sample :=
  ((taps.filter fun t => t.channel == c).getLast?).map TapRecord.value

/-- A commit fires: what becomes of a channel named or not in the old and in the new active bank (R83). -/
def OutputChannel.reassign (old new : Bool) (o : OutputChannel) : OutputChannel :=
  match old, new with
  | false, true => .safe
  | true, false => .unassigned
  | true, true => o
  | false, false => .unassigned

/-- The channel takes a value at this frame end: a record is handed over and the channel is SAFE or LIVE (R84). -/
def OutputChannel.updates (taken : Option Sample) (o : OutputChannel) : Bool :=
  match o with
  | .unassigned => false
  | .safe => taken.isSome
  | .live _ _ => taken.isSome

/-- The channel expires at this frame end under hold limit `l`: LIVE, not updated, and its age, risen by 1 and
saturating at 255, has reached a limit other than 0 (R85). -/
def OutputChannel.expires (taken : Option Sample) (l : Nat) (o : OutputChannel) : Bool :=
  match taken, o with
  | none, .live _ age => l != 0 && decide (l ≤ min 255 (age + 1))
  | _, _ => false

/-- An output channel at a frame end: application, ageing, expiry (R84, R85). -/
def OutputChannel.frameEnd (taken : Option Sample) (l : Nat) (o : OutputChannel) : OutputChannel :=
  match o, taken with
  | .unassigned, _ => .unassigned
  | .safe, none => .safe
  | .safe, some v => .live v 0
  | .live _ _, some v => .live v 0
  | .live v age, none => if o.expires none l then .safe else .live v (min 255 (age + 1))

/-- The channel expires at the moment a new hold limit `l` is taken: LIVE with its age at or above a limit other
than 0 (R86). -/
def OutputChannel.expiresUnder (l : Nat) (o : OutputChannel) : Bool :=
  match o with
  | .live _ age => l != 0 && decide (l ≤ age)
  | .unassigned => false
  | .safe => false

end Sys2Proof.Machine
end

