-- ==== Sys2Proof/Machine/Slots.lean ====
section
/-! DEFINITION. The header time with the firing of a commit, and the grooming of one slot in flight
(R31, R34 to R49, R64, R70, R83). The rows HEADER_TIME, COMMIT_FIRE and SLOT_IN_FLIGHT. -/

namespace Sys2Proof.Machine

/-! ### The header time (R31, R37, R70) -/

/-- A commit armed for `f` fires at the header of frame number `n`: the designations exchange, the commit state
becomes IDLE, the output channels are reassigned and COMMIT_DONE is raised, in this order (R70, R71, R74, R83). -/
def State.fireCommit (s : State) (n f : FrameNumber) : State :=
  let old := s.map.bank s.map.active
  let new := s.map.shadow
  State.raise
    { s with
      map := { s.map with active := s.map.active.other, commit := none }
      outputs := Vector.ofFn fun c : Channel =>
        s.outputs[c].reassign (namesOutput old c) (namesOutput new c) }
    (.commitDone n (distance f n) s.map.active.other)

/-- The armed F that fires at the header of frame number `n`, if one does (R70). -/
def MapStore.firing (m : MapStore) (n : FrameNumber) : Option FrameNumber :=
  match m.commit with
  | some f => if atOrPast n f then some f else none
  | none => none

/-- The firing test of a header time (R37, R70). -/
def State.fireIfDue (s : State) : State :=
  match s.map.firing s.link.E with
  | some f => s.fireCommit s.link.E f
  | none => s

/-- The header word the frame carries: as received if forwarded, as built if regenerated (R2, R26). -/
def FrameInFlight.headerWord (f : FrameInFlight) (e : FrameNumber) (address : Address) (w : Word) : Word :=
  if f.regenerated then builtHeader e address else w

/-- The header time of frame `f`: it takes E as its number, the banks of a NODE RESET take their reset contents, a
commit due fires, the bank is fixed, and the header word passes (R2, R26, R31, R35, R37; assumption 12). -/
def State.headerTime (s : State) (f : FrameInFlight) (w : Word) : State :=
  let h := f.headerWord s.link.E s.cmd.address w
  let t := State.fireIfDue { s with map := s.map.atHeader }
  t.passWords { f with number := s.link.E, header := h, bank := t.map.active } [h] [h]

/-- The frame in flight whose next word is word `n`. -/
def State.frameAt (s : State) (n : Nat) : Option FrameInFlight :=
  match s.frame with
  | some f => if f.pos == n then some f else none
  | none => none

/-- A processed frame's header passes (R31, R35, R37). -/
def execHeaderTime (w : Word) (s : State) : Host.Outcome State Fault Refusal :=
  happens s <|
    match s.frameAt 1 with
    | some f => s.headerTime f w
    | none => s

/-- The header time at which an armed commit fires (R70; assumption 2). -/
def execCommitFire (w : Word) (s : State) : Host.Outcome State Fault Refusal :=
  happens s <|
    match s.frameAt 1, s.map.firing s.link.E with
    | some f, some _ => s.headerTime f w
    | _, _ => s

/-! ### One slot (R39 to R49) -/

/-- The inbound slot arrived empty (R40). -/
def emptyIn (w : Word) : Bool := w == emptySlot

/-- The inbound slot holds a sample with stale 1 (R40). -/
def staleIn (w : Word) : Bool := slotValid w && slotStale w

/-- The inbound slot holds a sample of a source other than the one the entry expects (R40). -/
def foreignIn (e : MapEntry) (w : Word) : Bool := e.expect && slotValid w && slotSource w != e.source

/-- The inbound slot holds a fresh sample (R3). -/
def freshIn (w : Word) : Bool := slotValid w && !slotStale w

/-- What an action does with a slot: the outbound word, the action event, whether the input channel is read, and
the value staged. -/
structure Grooming where
  out : Word
  event : Option SlotSource
  reads : Bool
  staged : Option Sample
  deriving DecidableEq, Repr

/-- An INSERT, or a FILL of an empty slot, by the state of its input channel; `done` is the event counted when a
sample is written (R43, R44). -/
def insertGrooming (done : SlotSource) (address : Address) (c : InputState) : Grooming :=
  match c with
  | .fresh v _ => { out := sampleSlot false address v, event := some done, reads := true, staged := none }
  | .used v => { out := sampleSlot true address v, event := some done, reads := true, staged := none }
  | .never => { out := emptySlot, event := some .cleared, reads := true, staged := none }

/-- The value a TAP or DRAIN stages from the inbound slot (R46). -/
def tapValue (w : Word) : Option Sample := if freshIn w then some (slotValue w) else none

/-- The action of an entry on inbound word `w` (R41 to R48). -/
def groom (e : MapEntry) (address : Address) (c : InputState) (status : Sample) (w : Word) : Grooming :=
  match e.action with
  | .pass => { out := w, event := none, reads := false, staged := none }
  | .clear => { out := emptySlot, event := some .cleared, reads := false, staged := none }
  | .insert => insertGrooming .inserted address c
  | .fill =>
    if emptyIn w then insertGrooming .filled address c
    else { out := w, event := some .fillSkipped, reads := false, staged := none }
  | .tap => { out := w, event := none, reads := false, staged := tapValue w }
  | .drain => { out := emptySlot, event := some .cleared, reads := false, staged := tapValue w }
  | .status => { out := sampleSlot false address status, event := none, reads := false, staged := none }

/-- One event is counted if it happened (R49). -/
def SlotEngine.countIf (e : SlotEngine) (b : Bool) (src : SlotSource) (cls : MonitorClass) : SlotEngine :=
  if b then e.count src cls else e

/-- The Slot Engine after one slot: the inbound checks and the action's event counted under the entry's class, a
tap staged in slot order (R39, R40, R46, R49). -/
def SlotEngine.take (e : SlotEngine) (entry : MapEntry) (w : Word) (g : Grooming) : SlotEngine :=
  let e := e.countIf (emptyIn w) .emptyIn entry.cls
  let e := e.countIf (staleIn w) .staleIn entry.cls
  let e := e.countIf (foreignIn entry w) .foreign entry.cls
  let e := match g.event with
    | some src => e.count src entry.cls
    | none => e
  match g.staged with
  | some v => { e with staged := e.staged ++ [{ channel := entry.channel, value := v, cls := entry.cls }] }
  | none => e

/-- At slot time `i` a running copy copies entry `i` of its source bank into the other bank (R64). -/
def MapStore.copyEntry (m : MapStore) (i : SlotNumber) : MapStore :=
  match m.copy with
  | some src => m.setBank src.other ((m.bank src.other).set i (m.bank src)[i])
  | none => m

/-- The slot word as it arrived: empty in a regenerated frame (R26, R39). -/
def FrameInFlight.inboundSlot (f : FrameInFlight) (w : Word) : Word := if f.regenerated then emptySlot else w

/-- The grooming of slot `i` of frame `f`, by the entry of the frame's bank (R37, R39). -/
def State.grooming (s : State) (f : FrameInFlight) (i : SlotNumber) (w : Word) : Grooming :=
  let e := (s.map.bank f.bank)[i]
  groom e s.cmd.address s.inputs[e.channel].state s.statusWord (f.inboundSlot w)

/-- Slot `i` of frame `f` passes (R39, R64). -/
def State.slotPasses (s : State) (f : FrameInFlight) (i : SlotNumber) (w : Word) : State :=
  let e := (s.map.bank f.bank)[i]
  let g := s.grooming f i w
  let c := s.inputs[e.channel]
  State.passWords
    { s with
      slots := s.slots.take e (f.inboundSlot w) g
      map := s.map.copyEntry i
      inputs := if g.reads then s.inputs.set e.channel { c with state := c.state.read } else s.inputs }
    f [f.inboundSlot w] [g.out]

/-- The slot whose word is the frame's next: slot s is word s + 2 (R1). -/
def FrameInFlight.nextSlot (f : FrameInFlight) : Option SlotNumber :=
  if h : 2 ≤ f.pos ∧ f.pos < 66 then some ⟨f.pos - 2, by omega⟩ else none

/-- A slot word passes the Slot Engine (R39). -/
def execSlotInFlight (w : Word) (s : State) : Host.Outcome State Fault Refusal :=
  happens s <|
    match s.frame with
    | some f =>
      match f.nextSlot with
      | some i => s.slotPasses f i w
      | none => s
    | none => s

end Sys2Proof.Machine
end

