-- ==== Sys2Proof/Machine/Regions.lean ====
section
/-! DEFINITION. The command region and the response region of the frame in flight (R92 to R95, R116 to R118). The
rows COMMAND_REGION_HEADER and RESPONSE_REGION_HEADER. -/

namespace Sys2Proof.Machine

/-- 1 to 61: an address a node can hold (R4). -/
def isNodeAddress (a : Address) : Bool := decide (1 ≤ a.toNat) && decide (a.toNat ≤ 61)

/-! ### The command region (R92 to R94) -/

/-- The target class of a command, by its target field, the command it names and the node address (R93). -/
def targetClass (address target : Address) (name : Option CommandName) : TargetClass :=
  if target == 63 then .broadcast
  else if isNodeAddress address && target == address then .unicast
  else if address == 0 && target == 0 && name == some .assignAddress then .firstUnaddressed
  else .none

/-- The command in flight as read from the command region (R4, R92). -/
def readCommand (address : Address) (w p0 p1 p2 p3 : Word) : Request :=
  { cls := targetClass address (commandTarget w) (commandName w), seq := commandSequence w, name := commandName w
    count := commandCount w, tag := commandTag w, p0 := p0, p1 := p1, p2 := p2, p3 := p3 }

/-- The command region header word as sent: a first-unaddressed command is claimed (R94). -/
def Request.headerOut (r : Request) (w : Word) : Word :=
  match r.cls with
  | .firstUnaddressed => claimedHeader w
  | .unicast => w
  | .broadcast => w
  | .none => w

/-- The five words of a region as they arrived: all zero in a regenerated frame (R26). -/
def FrameInFlight.inboundRegion (f : FrameInFlight) (ws : List Word) : List Word :=
  if f.regenerated then [0, 0, 0, 0, 0] else ws

/-- The command region is examined: only in a forwarded frame with command present 1 (R4, R92). -/
def FrameInFlight.carriesCommand (f : FrameInFlight) : Bool := !f.regenerated && headerCommandPresent f.header

/-- The command region of frame `f` passes (R4, R92; assumption 10). -/
def State.commandRegion (s : State) (f : FrameInFlight) (w p0 p1 p2 p3 : Word) : State :=
  let rx := f.inboundRegion [w, p0, p1, p2, p3]
  if f.carriesCommand then
    let r := readCommand s.cmd.address w p0 p1 p2 p3
    State.passWords { s with cmd := { s.cmd with inFlight := some r } } f rx [r.headerOut w, p0, p1, p2, p3]
  else s.passWords f rx rx

/-- The command region header word arrives, with the parameter words behind it (R92; assumption 9). No region that is
examined arrives with a code and the name of another command than its own (assumptions 1, 3). -/
def execCommandRegionHeader (w : Word) (names : Option CommandName) (p0 p1 p2 p3 : Word) (s : State) :
    Host.Outcome State Fault Refusal :=
  happens s <|
    match s.frameAt 66 with
    | some f => if f.carriesCommand && names != commandName w then s else s.commandRegion f w p0 p1 p2 p3
    | none => s

/-! ### The response region (R116 to R118) -/

/-- The node may write the region: the four conditions of R116, by the region header as it arrived and the
frame's reservation. -/
def mayWrite (address reservation : Address) (gap : Nat) (region : Word) : Bool :=
  isNodeAddress address && regionSource region == 0
    && (reservation == 0 || reservation == address)
    && (gap == 0 || reservation == address)

/-- The item the node has to send: an UNSENT response, else the first QUEUED notice (R117). -/
def State.offer (s : State) : RegionItem :=
  match s.cmd.response with
  | .unsent _ => .response
  | .empty | .pending _ _ | .sent _ =>
    match s.notices.records.find? NoticeRecord.isQueued with
    | some r => .notice r.kind
    | none => .none

/-- The five words of the node's item (R117). -/
def State.itemWords (s : State) : Option (List Word) :=
  match s.cmd.response with
  | .unsent a => some (responseWords s.cmd.address a)
  | .empty | .pending _ _ | .sent _ =>
    (s.notices.records.find? NoticeRecord.isQueued).map fun r =>
      noticeWords s.cmd.address s.notices.dropped r

/-- The response region of frame `f` passes (R116 to R118). -/
def State.responseRegion (s : State) (f : FrameInFlight) (w d0 d1 d2 d3 : Word) : State :=
  let rx := f.inboundRegion [w, d0, d1, d2, d3]
  let may := mayWrite s.cmd.address (headerReservation f.header) s.arb.gap (rx.headD 0)
  match s.itemWords with
  | some ws =>
    if may then
      State.passWords { s with arb := { s.arb with item := s.offer, written := true, denied := false } } f rx ws
    else
      State.passWords { s with arb := { s.arb with item := .none, written := false, denied := true } } f rx rx
  | none =>
    State.passWords { s with arb := { s.arb with item := .none, written := false, denied := false } } f rx rx

/-- The response region header word arrives, with the data words behind it (R116; assumption 9). -/
def execResponseRegionHeader (w d0 d1 d2 d3 : Word) (s : State) : Host.Outcome State Fault Refusal :=
  happens s <|
    match s.frameAt 71 with
    | some f => s.responseRegion f w d0 d1 d2 d3
    | none => s

end Sys2Proof.Machine
end

