-- ==== Sys2Proof/Machine/Counters.lean ====
section
/-! DEFINITION. The Counter Bank's evaluation of a frame (R138 to R143), clear-on-capture (R151), and the capture of
the Snapshot Unit (R154 to R158). -/

namespace Sys2Proof.Machine

/-! ### Evaluation (R140 to R142) -/

/-- The condition of a counter with a threshold, for amount `a` (R141). -/
def CounterControl.condition (c : CounterControl) (a : Nat) : Bool :=
  match c.sense with
  | .atLeast => decide (c.threshold.toNat ≤ a)
  | .below => decide (a < c.threshold.toNat)

/-- What an evaluation with amount `a` adds to the value: the amount under threshold 0, otherwise 1 for a frame
that counts (R140, R141). -/
def Counter.increment (c : Counter) (a : Nat) : Nat :=
  if c.control.threshold == 0 then a
  else once (c.control.condition a && (!c.control.edge || !c.previous))

/-- The previous condition after an evaluation with amount `a`; under threshold 0 it is not updated (R140, R141). -/
def Counter.nextPrevious (c : Counter) (a : Nat) : Bool :=
  if c.control.threshold == 0 then c.previous else c.control.condition a

/-- An evaluation with amount `a` carries the value past 2^40 - 1 (R142). -/
def Counter.wraps (c : Counter) (a : Nat) : Bool := decide (2 ^ 40 ≤ c.value.toNat + c.increment a)

/-- An evaluated counter (R140 to R142). -/
def Counter.evaluate (c : Counter) (a : Nat) : Counter :=
  { value := BitVec.ofNat 40 (c.value.toNat + c.increment a), control := c.control
    wrapFlag := c.wrapFlag || c.wraps a, previous := c.nextPrevious a }

/-- Counter `i` is evaluated at this frame end (R140). -/
def CounterBank.evaluates (b : CounterBank) (i : CounterIndex) : Bool := b.gate && b.bank[i].control.enable

/-- Counter `i` wraps at this frame end (R142). -/
def CounterBank.wrapsAt (b : CounterBank) (i : CounterIndex) : Bool :=
  b.evaluates i && b.bank[i].wraps (b.frame.amount b.bank[i].control)

/-- The frame's amounts are evaluated by every counter that is evaluated, and are then gone (R139, R140). -/
def CounterBank.evaluate (b : CounterBank) : CounterBank :=
  { b with
    bank := Vector.ofFn fun i : CounterIndex =>
      if b.evaluates i then b.bank[i].evaluate (b.frame.amount b.bank[i].control) else b.bank[i]
    frame := FrameAmounts.zero }

/-- A WRAP trigger is handed over: some counter with snapshot-on-wrap wraps at this frame end (R142). -/
def CounterBank.wrapTrigger (b : CounterBank) : Bool :=
  (List.finRange 16).any fun i => b.wrapsAt i && b.bank[i].control.snapOnWrap

/-- Clear-on-capture (R151). -/
def Counter.captured (c : Counter) : Counter :=
  if c.control.clearOnCapture then { c with value := 0, wrapFlag := false } else c

/-- Clear-on-capture over the bank (R151). -/
def CounterBank.captured (b : CounterBank) : CounterBank :=
  { b with bank := Vector.ofFn fun i : CounterIndex => b.bank[i].captured }

/-! ### The capture (R155 to R158) -/

/-- The scheduled trigger fires at the end of frame number `n` (R155). -/
def SnapshotUnit.firesAt (u : SnapshotUnit) (n : FrameNumber) : Bool :=
  match u.scheduled with
  | some f => atOrPast n f
  | none => false

/-- At least one trigger is present (R156). -/
def Causes.any (c : Causes) : Bool := c.command || c.scheduled || c.wrap || c.syncLoss

/-- What the Snapshot Unit did at a frame end. -/
inductive Capture where
  | none
  | made (serial : SequenceNumber)
  | lost
  deriving DecidableEq, Repr

/-- What the Snapshot Unit does with the triggers of a frame end: nothing without one, a capture while the queue
has a place, a loss otherwise (R156, R157). -/
def SnapshotUnit.outcome (u : SnapshotUnit) (c : Causes) : Capture :=
  if !c.any then .none
  else if u.queue.length < Config.snapshotPlaces then .made u.serial
  else .lost

/-- The record a capture appends at the end of frame number `n` (R156). -/
def snapshotOf (u : SnapshotUnit) (b : CounterBank) (n : FrameNumber) (c : Causes) : SnapshotRecord :=
  { captureE := n, causes := c, wrapMask := maskOf 16 fun i => b.bank[i].wrapFlag, gate := b.gate
    serial := u.serial, values := Vector.ofFn fun i : CounterIndex => b.bank[i].value }

/-- A capture at the end of frame number `n`: the record is appended, clear-on-capture applied, SNAPSHOT_READY
raised (R151, R156). -/
def State.makeCapture (s : State) (n : FrameNumber) (c : Causes) : State :=
  State.raise
    { s with
      snaps := { s.snaps with
        queue := s.snaps.queue ++ [snapshotOf s.snaps s.counters n c], serial := s.snaps.serial + 1 }
      counters := s.counters.captured }
    (.snapshotReady n (s.snaps.queue.length + 1) s.snaps.serial)

/-- A capture is lost to a full queue: the lost count rises and SNAPSHOT_LOST is raised (R157). -/
def State.loseCapture (s : State) : State :=
  State.raise { s with snaps := { s.snaps with lost := min 255 (s.snaps.lost + 1) } }
    (.snapshotLost (min 255 (s.snaps.lost + 1)))

/-- Steps 4 and 5 of R158: capture, loss or neither, and the sync-loss mark cleared. -/
def State.captureStep (s : State) (n : FrameNumber) (c : Causes) : State :=
  let t := match s.snaps.outcome c with
    | .none => s
    | .made _ => s.makeCapture n c
    | .lost => s.loseCapture
  { t with snaps := { t.snaps with syncLossMark := false } }

end Sys2Proof.Machine
end

