-- ==== Sys2Proof/Machine/Commands.lean ====
section
/-! DEFINITION. The 21 commands: for each, the checks in the order its rule gives (`check…`), and what it does and
answers once accepted (`do…`) (R57 to R75, R105 to R114, R128, R144 to R150, R159 to R163). -/

namespace Sys2Proof.Machine

/-- A refusal: its status and its data words (R102). -/
abbrev Turned := Status × List Word

/-- A check of a command: if it fails, the command is refused with that status and no data (R57, R102). -/
def require (holds : Bool) (st : Status) (rest : Option Turned) : Option Turned :=
  if holds then rest else some (st, [])

/-! ### The Command Unit's own commands (R105 to R114) -/

/-- The identity record: family 4C36h, revision 2, 64 slots, 8 and 8 channels, 16 counters, depths 4 and 6 (R105). -/
def identityWords : List Word :=
  [0x4C36#16 ++ 2#16, 64#8 ++ 8#8 ++ 8#8 ++ 16#8, 4#8 ++ 6#8 ++ 0#16]

/-- IDENTIFY takes no parameter (R105). -/
def checkIdentify (r : Request) : Option Turned := require (r.count == 0) .badParameter none

/-- ASSIGN ADDRESS takes an address from 1 to 61 (R106, R107). -/
def checkAssignAddress (r : Request) : Option Turned :=
  require (r.count == 1) .badParameter <|
  require (decide (1 ≤ r.p0.toNat) && decide (r.p0.toNat ≤ 61)) .badParameter none

/-- The node address becomes the new value (R106). -/
def doAssignAddress (r : Request) (s : State) : State × List Word :=
  ({ s with cmd := { s.cmd with address := r.p0.extractLsb' 0 6 } }, identityWords)

/-- READ STATUS takes no parameter (R111). -/
def checkReadStatus (r : Request) : Option Turned := require (r.count == 0) .badParameter none

/-- A parameter of the parameter table (R112). -/
inductive ParamId where
  | courtesyGap | flywheelLimit | noticeResend | noticeMask | snapOnSyncLoss
  | holdLimit (c : Channel)
  | safeValue (c : Channel)
  deriving DecidableEq, Repr

/-- The parameter that a parameter word names: ids 0 to 4, 8 to 15 and 16 to 23 (R112). -/
def paramOf (w : Word) : Option ParamId :=
  if w == 0 then some .courtesyGap
  else if w == 1 then some .flywheelLimit
  else if w == 2 then some .noticeResend
  else if w == 3 then some .noticeMask
  else if w == 4 then some .snapOnSyncLoss
  else if w.toNat < 8 then none
  else if h : w.toNat - 8 < 8 then some (.holdLimit ⟨w.toNat - 8, h⟩)
  else if h : w.toNat - 16 < 8 then some (.safeValue ⟨w.toNat - 16, h⟩)
  else none

/-- The value lies in the parameter's range (R112, R113). -/
def ParamId.accepts (p : ParamId) (w : Word) : Bool :=
  match p with
  | .courtesyGap => decide (w.toNat ≤ 15)
  | .flywheelLimit => decide (1 ≤ w.toNat) && decide (w.toNat ≤ 15)
  | .noticeResend => decide (16 ≤ w.toNat) && decide (w.toNat ≤ 4095)
  | .noticeMask => decide (w.toNat ≤ 255)
  | .snapOnSyncLoss => decide (w.toNat ≤ 1)
  | .holdLimit _ => decide (w.toNat ≤ 255)
  | .safeValue _ => true

/-- The value a parameter holds, as a data word (R113, R114). -/
def Parameters.word (t : Parameters) (p : ParamId) : Word :=
  match p with
  | .courtesyGap => numWord t.courtesyGap
  | .flywheelLimit => numWord t.flywheelLimit
  | .noticeResend => numWord t.noticeResend
  | .noticeMask => t.noticeMask.zeroExtend 32
  | .snapOnSyncLoss => numWord (once t.snapOnSyncLoss)
  | .holdLimit c => numWord t.holdLimit[c]
  | .safeValue c => sampleWord t.safeValue[c]

/-- The table with a parameter set to the value of a parameter word (R113). -/
def Parameters.put (t : Parameters) (p : ParamId) (w : Word) : Parameters :=
  match p with
  | .courtesyGap => { t with courtesyGap := w.toNat }
  | .flywheelLimit => { t with flywheelLimit := w.toNat }
  | .noticeResend => { t with noticeResend := w.toNat }
  | .noticeMask => { t with noticeMask := w.extractLsb' 0 8 }
  | .snapOnSyncLoss => { t with snapOnSyncLoss := w == 1 }
  | .holdLimit c => { t with holdLimit := t.holdLimit.set c w.toNat }
  | .safeValue c => { t with safeValue := t.safeValue.set c (wordSample w) }

/-- The state with a parameter set in the table. -/
def State.putParam (s : State) (p : ParamId) (w : Word) : State :=
  { s with cmd := { s.cmd with params := s.cmd.params.put p w } }

/-- Each record whose kind's bit is 0 in the mask is removed (R130). -/
def NoticeQueue.maskOff (q : NoticeQueue) (mask : BitVec 8) : NoticeQueue :=
  { q with records := q.records.filter fun r => mask.getLsbD (noticeIndex r.kind).val }

/-- A new hold limit expires channel `c` if it is LIVE at or past it, raising OUTPUT_EXPIRED (R86). -/
def State.limitLowered (s : State) (c : Channel) : State :=
  if s.outputs[c].expiresUnder s.cmd.params.holdLimit[c] then
    let t := { s with outputs := s.outputs.set c .safe }
    t.raise (.outputExpired (safeMask t.outputs))
  else s

/-- What the owning block does about a changed parameter (R21, R86, R87, R119, R127, R130, R154). -/
def State.paramChanged (s : State) (p : ParamId) : State :=
  match p with
  | .noticeMask => { s with notices := s.notices.maskOff s.cmd.params.noticeMask }
  | .holdLimit c => s.limitLowered c
  | .courtesyGap | .flywheelLimit | .noticeResend | .snapOnSyncLoss => s
  | .safeValue _ => s

/-- SET PARAMETER: count, id, range (R113). -/
def checkSetParameter (r : Request) : Option Turned :=
  require (r.count == 2) .badParameter <|
  match paramOf r.p0 with
  | some p => require (p.accepts r.p1) .badParameter none
  | none => some (.badParameter, [])

/-- The parameter holds the new value and its owner acts on the change; a value equal to the one held changes
nothing (R113). -/
def doSetParameter (r : Request) (s : State) : State × List Word :=
  match paramOf r.p0 with
  | some p =>
    let t := s.putParam p r.p1
    let u := if t.cmd.params = s.cmd.params then s else t.paramChanged p
    (u, [u.cmd.params.word p])
  | none => (s, [])

/-- GET PARAMETER: count, id (R114). -/
def checkGetParameter (r : Request) : Option Turned :=
  require (r.count == 1) .badParameter <| require (paramOf r.p0).isSome .badParameter none

/-- The value held (R114). -/
def doGetParameter (r : Request) (s : State) : State × List Word :=
  match paramOf r.p0 with
  | some p => (s, [s.cmd.params.word p])
  | none => (s, [])

/-- NODE RESET takes no parameter (R109). -/
def checkNodeReset (r : Request) : Option Turned := require (r.count == 0) .badParameter none

/-- The cause RESTARTED carries after a NODE RESET (R122, R123). -/
def Request.restartCause (r : Request) : RestartCause :=
  match r.cls with
  | .broadcast => .broadcastReset
  | .unicast | .firstUnaddressed | .none => .unicastReset

/-- Every block but the Link Receiver takes its reset values, the map's two banks at the next header time; the address,
the sequences, the response record, the pending drops and the notice sequence counter stand, and RESTARTED is raised
under the default mask (R35, R55, R81, R88, R109, R115, R122, R136, R153). -/
def doNodeReset (r : Request) (s : State) : State × List Word :=
  (State.raise
    { s with
      slots := SlotEngine.empty
      map := s.map.nodeReset
      inputs := Vector.replicate 8 InputChannel.reset
      outputs := Vector.replicate 8 OutputChannel.unassigned
      cmd := { s.cmd with params := Parameters.default }
      arb := { s.arb with gap := 0 }
      notices := { s.notices with records := [], dropped := 0 }
      counters := CounterBank.reset
      snaps := SnapshotUnit.reset }
    (.restarted r.restartCause), [])

/-- What a broadcast NODE RESET does to a running copy it meets: the copy is abandoned, and the PENDING record is
answered ABORTED (R55, R66, R110). -/
def State.abandonCopy (s : State) : State :=
  { s with
    map := { s.map with copy := none }
    cmd := { s.cmd with response := match s.cmd.response with
      | .pending q t => .unsent { seq := q, tag := t, status := .aborted, data := [] }
      | .empty => .empty
      | .unsent a => .unsent a
      | .sent a => .sent a } }

/-! ### The Map Store's commands (R58 to R73) -/

/-- The start field of WRITE ENTRIES and READ ENTRIES (R58, R61). -/
def entryStart (w : Word) : Nat := (w.extractLsb' 8 8).toNat

/-- The count field of WRITE ENTRIES and READ ENTRIES (R58, R61). -/
def entryCount (w : Word) : Nat := (w.extractLsb' 0 8).toNat

/-- Check 1 of WRITE ENTRIES: the parameter count that the count field requires, and 2, 3 or 4 for a count field
outside 1 to 6 (R58). -/
def writeCountOk (parameters entries : Nat) : Bool :=
  if 1 ≤ entries ∧ entries ≤ 6 then parameters == 1 + (entries + 1) / 2
  else decide (2 ≤ parameters) && decide (parameters ≤ 4)

/-- The 16-bit entries a WRITE ENTRIES carries (R7, R58). -/
def carriedEntries (r : Request) : List (BitVec 16) :=
  ((([r.p1, r.p2, r.p3]).map entryHalves).flatten).take (entryCount r.p0)

/-- The entries of 16-bit forms, none if one has action code 7 (R7, R59). -/
def decodeEntries : List (BitVec 16) → Option (List MapEntry)
  | [] => some []
  | b :: rest =>
    match MapEntry.ofBits b, decodeEntries rest with
    | some e, some es => some (e :: es)
    | _, _ => none

/-- WRITE ENTRIES: the five checks of R59. -/
def checkWriteEntries (r : Request) (s : State) : Option Turned :=
  require (writeCountOk r.count (entryCount r.p0)) .badParameter <|
  require (decide (1 ≤ entryCount r.p0) && decide (entryCount r.p0 ≤ 6)
    && decide (entryStart r.p0 + entryCount r.p0 ≤ 64)) .badParameter <|
  require (decodeEntries (carriedEntries r)).isSome .badParameter <|
  require s.map.commit.isNone .commitLocked <|
  require s.map.copy.isNone .busy none

/-- Entries written from slot `i` on. -/
def writeFrom (v : MapBank) (i : Nat) : List MapEntry → MapBank
  | [] => v
  | e :: es => writeFrom (v.setIfInBounds i e) (i + 1) es

/-- The carried entries are written into the shadow bank (R59). -/
def doWriteEntries (r : Request) (s : State) : State × List Word :=
  match decodeEntries (carriedEntries r) with
  | some es =>
    ({ s with map := s.map.setBank s.map.active.other (writeFrom s.map.shadow (entryStart r.p0) es) }, [])
  | none => (s, [])

/-- READ ENTRIES: count, then the count field and the range (R61). -/
def checkReadEntries (r : Request) : Option Turned :=
  require (r.count == 1) .badParameter <|
  require (decide (1 ≤ entryCount r.p0) && decide (entryCount r.p0 ≤ 8)
    && decide (entryStart r.p0 + entryCount r.p0 ≤ 64)) .badParameter none

/-- The named entries of the named bank, two to a word (R61, R62). -/
def doReadEntries (r : Request) (s : State) : State × List Word :=
  let v := if r.p0.getLsbD 16 then s.map.shadow else s.map.bank s.map.active
  (s, packEntries ((v.toList.drop (entryStart r.p0)).take (entryCount r.p0)))

/-- COPY ACTIVE: count, commit state, copy state (R63). -/
def checkCopyActive (r : Request) (s : State) : Option Turned :=
  require (r.count == 0) .badParameter <|
  require s.map.commit.isNone .commitLocked <|
  require s.map.copy.isNone .busy none

/-- The copy state becomes RUNNING with the active bank as its source (R63). -/
def doCopyActive (s : State) : State × List Word :=
  ({ s with map := { s.map with copy := some s.map.active } }, [])

/-- The F of a COMMIT: next E, or the frame number of parameter word 0 (R67). -/
def commitFrame (r : Request) (s : State) : FrameNumber := if r.count == 0 then s.link.E else wordFrame r.p0

/-- COMMIT: the five checks of R68. -/
def checkCommit (r : Request) (s : State) : Option Turned :=
  require (r.count == 0 || r.count == 1) .badParameter <|
  require (s.cmd.address != 0) .noAddress <|
  require s.map.copy.isNone .busy <|
  require s.map.commit.isNone .alreadyArmed <|
  match conflictPair s.map.shadow with
  | some (i, j) => some (.mapConflict, [numWord i.val, numWord j.val])
  | none => none

/-- The commit is ARMED with its F; the answer is F and the distance to it (R69). -/
def doCommit (r : Request) (s : State) : State × List Word :=
  ({ s with map := { s.map with commit := some (commitFrame r s) } },
    [frameWord (commitFrame r s), frameWord (distance s.link.E (commitFrame r s))])

/-- CANCEL COMMIT: count, and an armed commit (R72). -/
def checkCancelCommit (r : Request) (s : State) : Option Turned :=
  require (r.count == 0) .badParameter <| require s.map.commit.isSome .notArmed none

/-- The armed commit becomes IDLE; the answer is its F (R72). -/
def doCancelCommit (s : State) : State × List Word :=
  ({ s with map := { s.map with commit := none } }, [frameWord (s.map.commit.getD 0)])

/-! ### The Notice Queue's command (R128) -/

/-- The record an acknowledgement of `q` removes is AWAITING with that sequence (R128). -/
def NoticeRecord.acknowledgedBy (q : SequenceNumber) (r : NoticeRecord) : Bool := r.isAwaiting && r.seq == q

/-- The sequence a parameter word names (R128). -/
def ackSequence (r : Request) : SequenceNumber := r.p0.extractLsb' 0 8

/-- ACKNOWLEDGE NOTICE: count, range, and an AWAITING record with the sequence (R128). -/
def checkAcknowledge (r : Request) (s : State) : Option Turned :=
  require (r.count == 1) .badParameter <|
  require (decide (r.p0.toNat ≤ 255)) .badParameter <|
  require (s.notices.records.any (NoticeRecord.acknowledgedBy (ackSequence r))) .staleAck none

/-- The first such record is removed and the dropped count becomes 0 (R128, R131). -/
def doAcknowledge (r : Request) (s : State) : State :=
  { s with notices := { s.notices with
    records := s.notices.records.eraseP (NoticeRecord.acknowledgedBy (ackSequence r)), dropped := 0 } }

/-! ### The Counter Bank's commands (R144 to R150) -/

/-- The counter a parameter word names, if any (section 8.4). -/
def counterOf (w : Word) : Option CounterIndex := if h : w.toNat < 16 then some ⟨w.toNat, h⟩ else none

/-- The bank with one counter replaced. -/
def State.putCounter (s : State) (i : CounterIndex) (c : Counter) : State :=
  { s with counters := { s.counters with bank := s.counters.bank.set i c } }

/-- SET COUNTER: count, index, source code (R144). -/
def checkSetCounter (r : Request) : Option Turned :=
  require (r.count == 4) .badParameter <|
  require (counterOf r.p0).isSome .badParameter <|
  require (CounterControl.ofBits r.p1).isSome .badParameter none

/-- The control word and the preset are stored, the wrap flag cleared, the previous condition false (R145). -/
def doSetCounter (r : Request) (s : State) : State × List Word :=
  match counterOf r.p0, CounterControl.ofBits r.p1 with
  | some i, some c =>
    (s.putCounter i { value := wordsValue r.p2 r.p3, control := c, wrapFlag := false, previous := false }, [])
  | _, _ => (s, [])

/-- GET COUNTER CONTROL: count, index (R146). -/
def checkGetCounterControl (r : Request) : Option Turned :=
  require (r.count == 1) .badParameter <| require (counterOf r.p0).isSome .badParameter none

/-- The two words of GET COUNTER CONTROL (R146). -/
def Counter.controlWords (c : Counter) : List Word :=
  [c.control.bits, 0#30 ++ BitVec.ofBool c.previous ++ BitVec.ofBool c.wrapFlag]

/-- The control word, the previous condition and the wrap flag of a counter (R146). -/
def doGetCounterControl (r : Request) (s : State) : State × List Word :=
  match counterOf r.p0 with
  | some i => (s, s.counters.bank[i].controlWords)
  | none => (s, [])

/-- READ COUNTERS: count, first index, count of 1 or 2, end (R147). -/
def checkReadCounters (r : Request) : Option Turned :=
  require (r.count == 2) .badParameter <|
  require (counterOf r.p0).isSome .badParameter <|
  require (r.p1 == 1 || r.p1 == 2) .badParameter <|
  require (decide (r.p0.toNat + r.p1.toNat ≤ 16)) .badParameter none

/-- The values of one or two counters, two words each (R147). -/
def doReadCounters (r : Request) (s : State) : State × List Word :=
  (s, (((s.counters.bank.toList.drop r.p0.toNat).take r.p1.toNat).map fun c => valueWords c.value).flatten)

/-- CLEAR COUNTERS: count, a mask of 16 bits (R148). -/
def checkClearCounters (r : Request) : Option Turned :=
  require (r.count == 1) .badParameter <| require (decide (r.p0.toNat ≤ 65535)) .badParameter none

/-- A cleared counter: value 0, wrap flag clear, previous condition false (R148). -/
def Counter.cleared (c : Counter) : Counter := { c with value := 0, wrapFlag := false, previous := false }

/-- The counters of the mask are cleared (R148). -/
def doClearCounters (r : Request) (s : State) : State × List Word :=
  ({ s with counters := { s.counters with
    bank := Vector.ofFn fun i : CounterIndex =>
      if r.p0.getLsbD i.val then s.counters.bank[i].cleared else s.counters.bank[i] } }, [])

/-- GATE: count, 0 or 1 (R149). -/
def checkGate (r : Request) : Option Turned :=
  require (r.count == 1) .badParameter <| require (r.p0 == 0 || r.p0 == 1) .badParameter none

/-- The gate starts: from STOPPED every previous condition becomes false; a RUNNING gate is left alone (R149). -/
def CounterBank.start (b : CounterBank) : CounterBank :=
  if b.gate then b
  else { b with gate := true
                bank := Vector.ofFn fun i : CounterIndex => { b.bank[i] with previous := false } }

/-- The gate stops, keeping every counter's state (R150). -/
def CounterBank.stop (b : CounterBank) : CounterBank := { b with gate := false }

/-- GATE start or stop (R149, R150). -/
def doGate (r : Request) (s : State) : State × List Word :=
  ({ s with counters := if r.p0 == 1 then s.counters.start else s.counters.stop }, [])

/-! ### The Snapshot Unit's commands (R159 to R163) -/

/-- TAKE SNAPSHOT: now with no parameter; scheduled with one, on an IDLE trigger (R159, R160). -/
def checkTakeSnapshot (r : Request) (s : State) : Option Turned :=
  if r.count == 0 then none
  else require (r.count == 1) .badParameter <| require s.snaps.scheduled.isNone .alreadyArmed none

/-- The two words of a TAKE SNAPSHOT now: captured or lost, the depth, the serial; the lost count (R159). -/
def captureWords (capture : Capture) (u : SnapshotUnit) : List Word :=
  match capture with
  | .made serial =>
    [1#1 ++ 0#20 ++ BitVec.ofNat 3 u.queue.length ++ serial, (BitVec.ofNat 8 u.lost).zeroExtend 32]
  | .lost | .none =>
    [0#1 ++ 0#20 ++ BitVec.ofNat 3 u.queue.length ++ 0#8, (BitVec.ofNat 8 u.lost).zeroExtend 32]

/-- The now form reports the capture already made or lost at this frame end; the scheduled form arms F (R159,
R160). -/
def doTakeSnapshot (r : Request) (capture : Capture) (s : State) : State × List Word :=
  if r.count == 0 then (s, captureWords capture s.snaps)
  else ({ s with snaps := { s.snaps with scheduled := some (wordFrame r.p0) } },
    [frameWord (wordFrame r.p0), frameWord (distance s.link.E (wordFrame r.p0))])

/-- CANCEL SNAPSHOT: count, and an armed trigger (R161). -/
def checkCancelSnapshot (r : Request) (s : State) : Option Turned :=
  require (r.count == 0) .badParameter <| require s.snaps.scheduled.isSome .notArmed none

/-- The armed trigger becomes IDLE; the answer is its F (R161). -/
def doCancelSnapshot (s : State) : State × List Word :=
  ({ s with snaps := { s.snaps with scheduled := none } }, [frameWord (s.snaps.scheduled.getD 0)])

/-- READ SNAPSHOT: count, part, a record in the queue before this frame end's capture (R162). -/
def checkReadSnapshot (r : Request) (s : State) : Option Turned :=
  require (r.count == 1) .badParameter <|
  require (decide (r.p0.toNat ≤ 8)) .badParameter <|
  require (!s.snaps.queue.isEmpty) .queueEmpty none

/-- Part 0 of a record: its header, with the depth of the queue (R162). -/
def SnapshotRecord.headerWords (x : SnapshotRecord) (depth : Nat) : List Word :=
  [ frameWord x.captureE,
    x.wrapMask ++ BitVec.ofBool x.causes.command ++ BitVec.ofBool x.causes.scheduled
      ++ BitVec.ofBool x.causes.wrap ++ BitVec.ofBool x.causes.syncLoss ++ 0#3 ++ BitVec.ofBool x.gate ++ x.serial,
    (BitVec.ofNat 3 depth).zeroExtend 32 ]

/-- One part of a record: the header, or the values of counters 2p - 2 and 2p - 1 (R162). -/
def SnapshotRecord.part (x : SnapshotRecord) (depth p : Nat) : List Word :=
  if p == 0 then x.headerWords depth
  else (((x.values.toList.drop (2 * p - 2)).take 2).map valueWords).flatten

/-- One part of the oldest record, with the queue as it stands after this frame end's capture (R162). -/
def doReadSnapshot (r : Request) (s : State) : State × List Word :=
  match s.snaps.queue with
  | x :: rest => (s, x.part (rest.length + 1) r.p0.toNat)
  | [] => (s, [])

/-- RELEASE SNAPSHOT: count, a record in the queue before this frame end's capture (R163). -/
def checkReleaseSnapshot (r : Request) (s : State) : Option Turned :=
  require (r.count == 0) .badParameter <| require (!s.snaps.queue.isEmpty) .queueEmpty none

/-- The oldest record is removed (R163). -/
def doReleaseSnapshot (s : State) : State × List Word :=
  ({ s with snaps := { s.snaps with queue := s.snaps.queue.tail } }, [])

/-! ### Every command -/

/-- The refusal a command draws, if any, on the state as it stands when it is checked (R57, R102). -/
def checkCommand (n : CommandName) (r : Request) (s : State) : Option Turned :=
  match n with
  | .identify => checkIdentify r
  | .assignAddress => checkAssignAddress r
  | .nodeReset => checkNodeReset r
  | .readStatus => checkReadStatus r
  | .setParameter => checkSetParameter r
  | .getParameter => checkGetParameter r
  | .writeEntries => checkWriteEntries r s
  | .readEntries => checkReadEntries r
  | .copyActive => checkCopyActive r s
  | .commit => checkCommit r s
  | .cancelCommit => checkCancelCommit r s
  | .acknowledgeNotice => checkAcknowledge r s
  | .setCounter => checkSetCounter r
  | .getCounterControl => checkGetCounterControl r
  | .readCounters => checkReadCounters r
  | .clearCounters => checkClearCounters r
  | .gate => checkGate r
  | .takeSnapshot => checkTakeSnapshot r s
  | .cancelSnapshot => checkCancelSnapshot r s
  | .readSnapshot => checkReadSnapshot r s
  | .releaseSnapshot => checkReleaseSnapshot r s

/-- A SET PARAMETER of NOTICE_MASK meets the raisings and the delivery of its frame end (R126, R130), unless the Snapshot
Unit's raising comes before it; every other parameter waits for them (R113; assumption 16). -/
def meetParameter (r : Request) (snapshotFirst : Bool) (s : State) : State :=
  if paramOf r.p0 = some .noticeMask ∧ snapshotFirst = false then (doSetParameter r s).1 else s

/-- The parameter is a HOLD_LIMIT, whose lowering can raise OUTPUT_EXPIRED (R86). -/
def ParamId.isHoldLimit : ParamId → Bool
  | .holdLimit _ => true
  | .courtesyGap | .flywheelLimit | .noticeResend | .noticeMask | .snapOnSyncLoss | .safeValue _ => false

/-- A SET PARAMETER of HOLD_LIMIT that comes before the Snapshot Unit's raising of its frame end acts there, and so
raises OUTPUT_EXPIRED before SNAPSHOT_READY or SNAPSHOT_LOST (R86, R124; assumption 16). -/
def limitBeforeCapture (r : Request) (s : State) : State :=
  if (paramOf r.p0).any ParamId.isHoldLimit then (doSetParameter r s).1 else s

/-- What an accepted command does where the manual settles its effect against the other works of the frame end:
an acknowledgement meets the raisings and the delivery (R129), and so does a new NOTICE_MASK (R126, R130); a
NODE RESET meets a running copy (R66). -/
def meetCommand (n : CommandName) (r : Request) (snapshotFirst : Bool) (s : State) : State :=
  match n with
  | .acknowledgeNotice => doAcknowledge r s
  | .nodeReset => if s.map.copy.isSome then s.abandonCopy else s
  | .setParameter => meetParameter r snapshotFirst s
  | .identify | .assignAddress | .readStatus | .getParameter | .writeEntries
  | .readEntries | .copyActive | .commit | .cancelCommit | .setCounter | .getCounterControl
  | .readCounters | .clearCounters | .gate | .takeSnapshot | .cancelSnapshot | .readSnapshot
  | .releaseSnapshot => s

/-- What an accepted command does, and answers, after the works of the frame end and its capture. -/
def doCommand (n : CommandName) (r : Request) (capture : Capture) (s : State) : State × List Word :=
  match n with
  | .identify => (s, identityWords)
  | .assignAddress => doAssignAddress r s
  | .nodeReset => doNodeReset r s
  | .readStatus => (s, s.statusWords)
  | .setParameter => doSetParameter r s
  | .getParameter => doGetParameter r s
  | .writeEntries => doWriteEntries r s
  | .readEntries => doReadEntries r s
  | .copyActive => doCopyActive s
  | .commit => doCommit r s
  | .cancelCommit => doCancelCommit s
  | .acknowledgeNotice => (s, [])
  | .setCounter => doSetCounter r s
  | .getCounterControl => doGetCounterControl r s
  | .readCounters => doReadCounters r s
  | .clearCounters => doClearCounters r s
  | .gate => doGate r s
  | .takeSnapshot => doTakeSnapshot r capture s
  | .cancelSnapshot => doCancelSnapshot s
  | .readSnapshot => doReadSnapshot r s
  | .releaseSnapshot => doReleaseSnapshot s

/-- The commands accepted as broadcasts (R98). -/
def acceptsBroadcast : CommandName → Bool
  | .nodeReset | .commit | .cancelCommit | .gate | .takeSnapshot | .cancelSnapshot => true
  | .identify | .assignAddress | .readStatus | .setParameter | .getParameter | .writeEntries
  | .readEntries | .copyActive | .acknowledgeNotice | .setCounter | .getCounterControl
  | .readCounters | .clearCounters | .readSnapshot | .releaseSnapshot => false

end Sys2Proof.Machine
end

