-- ==== Sys2Proof/Machine/FrameEnd.lean ====
section
/-! DEFINITION. The end of a processed frame as one operation (R29 to R33, R50, R51, R79 to R89, R96 to R104,
R119 to R121, R126 to R134, R139 to R143, R155 to R158): each block's work, the works that may meet in either
order, the counting and the capture, and the command taken. -/

namespace Sys2Proof.Machine

/-! ### Outcome -/

/-- The outcome of a processed frame (R29). -/
inductive FrameOutcome where
  | good | damaged | regenerated
  deriving DecidableEq, Repr

/-- The outcome of frame `f` when check word `check` arrives (R11, R29). -/
def FrameInFlight.outcome (f : FrameInFlight) (check : Word) : FrameOutcome :=
  if f.regenerated then .regenerated
  else if check == crcValue f.rxCrc then .good
  else .damaged

/-- The check word frame `f` sends: the CRC of its content if regenerated, error carry if forwarded (R11, R12, R26). -/
def FrameInFlight.checkOut (f : FrameInFlight) (check : Word) : Word :=
  if f.regenerated then crcValue f.txCrc else errorCarry f.txCrc f.rxCrc check

/-- The frame number resynchronises E: a GOOD frame whose received number differs from its own (R32). -/
def FrameInFlight.jumps (f : FrameInFlight) (o : FrameOutcome) : Bool :=
  o == .good && headerNumber f.header != f.number

/-- E after the frame's end (R32). -/
def FrameInFlight.nextE (f : FrameInFlight) (o : FrameOutcome) : FrameNumber :=
  if f.jumps o then headerNumber f.header + 1 else f.number + 1

/-! ### What a frame end carries from work to work -/

/-- What the Command Unit made of the command in flight (R96 to R98). -/
inductive Taking where
  /-- nothing is executed -/
  | nothing
  /-- the named or unknown command is executed and refused with a status and data -/
  | turned (r : Request) (t : Turned)
  /-- the command is executed and accepted -/
  | accepted (r : Request) (n : CommandName)
  deriving DecidableEq, Repr

/-- A frame end in progress: the state, and what its works hand on to each other. Local to the frame end. -/
structure Closing where
  s : State
  frame : FrameInFlight
  outcome : FrameOutcome
  /-- the output channels that expired under R85 -/
  expired : List Channel
  /-- the kinds whose resend countdown reached 0 (R127) -/
  resent : List NoticeKind
  /-- the courtesy-gap countdown fell to 0 (R119) -/
  gapRanOut : Bool
  /-- the scheduled trigger fired (R155) -/
  fired : Bool
  /-- a copy completed (R65) -/
  copied : Bool
  taking : Taking
  /-- the Snapshot Unit's raising comes before a SET PARAMETER acts (assumption 16) -/
  snapshotFirst : Bool
  /-- the counters that wrapped (R142) -/
  wrapped : List CounterIndex
  deriving DecidableEq, Repr

/-! ### The blocks' own works -/

/-- The state handing in a node source's amount (R139). -/
def State.hand (s : State) (src : NodeSource) (n : Nat) : State :=
  { s with counters := { s.counters with frame := s.counters.frame.putNode src n } }

/-- The Link Transmitter at the end of frame `f`: the check word is sent, and idle fill follows where the node
waits for the first frame it may forward (R12, R27). -/
def State.closeLine (s : State) (f : FrameInFlight) (check : Word) : State :=
  { s with
    frame := none
    tx := { line := if s.link.relockWait then .relockFill s.tx.line.freeFrom else s.tx.line
            sent := s.tx.sent ++ [f.checkOut check] } }

/-- The Link Receiver's work: the unlocked-frame count and E are updated and the pending link amounts taken (R23,
R30, R32, R33). -/
def LinkReceiver.frameEnd (l : LinkReceiver) (f : FrameInFlight) (o : FrameOutcome) : LinkReceiver :=
  { l with
    E := f.nextE o
    unlocked := if l.lostFlag then min Config.unlockedMax (l.unlocked + 1) else l.unlocked
    pendMiss := 0, pendDropped := 0 }

/-- The amounts of the Link Receiver for frame `f` (R33). -/
def linkAmounts (a : FrameAmounts) (l : LinkReceiver) (f : FrameInFlight) (o : FrameOutcome) : FrameAmounts :=
  let a := a.putNode .frameGood (once (o == .good))
  let a := a.putNode .frameDamaged (once (o == .damaged))
  let a := a.putNode .frameRegenerated (once (o == .regenerated))
  let a := a.putNode .framePassedRegenerated (once (o == .good && headerRegenerated f.header))
  let a := a.putNode .syncMiss l.pendMiss
  let a := a.putNode .frameDropped l.pendDropped
  let a := a.putNode .numberJump (once (f.jumps o))
  a.putNode .always 1

/-- The Link Receiver's frame end (R30). -/
def Closing.link (w : Closing) : Closing :=
  { w with s := { w.s with
    link := w.s.link.frameEnd w.frame w.outcome
    counters := { w.s.counters with
      frame := linkAmounts w.s.counters.frame w.s.link w.frame w.outcome } } }

/-- The staged records handed to Sample Channels: those of a GOOD frame (R50). -/
def Closing.taps (w : Closing) : List TapRecord := if w.outcome == .good then w.s.slots.staged else []

/-- The slot event amounts with SLOT_TAPPED completed (R50, R51). -/
def tappedAmounts (t : AmountTable 8) (taps : List TapRecord) : AmountTable 8 :=
  taps.foldl (fun t r => AmountTable.add t SlotSource.tapped.row r.cls 1) t

/-- The amount of one channel source at this frame end (R89). -/
def channelAmount (s : State) (taps : List TapRecord) (src : ChannelSource) (c : Channel) : Nat :=
  match src with
  | .arrived => s.inputs[c].arrived
  | .overwritten => s.inputs[c].overwritten
  | .updated => once (s.outputs[c].updates (tapFor taps c))
  | .safe => once (s.outputs[c].frameEnd (tapFor taps c) s.cmd.params.holdLimit[c]).isSafe

/-- The output channels that expire at this frame end (R85). -/
def expiringChannels (s : State) (taps : List TapRecord) : List Channel :=
  (List.finRange 8).filter fun c => s.outputs[c].expires (tapFor taps c) s.cmd.params.holdLimit[c]

/-- The frame ends of the Slot Engine and of Sample Channels: taps settled and applied, ageing and expiry, the
freshness update, the amounts handed in (R50, R51, R79, R84, R85, R89). -/
def Closing.samples (w : Closing) : Closing :=
  let s := w.s
  let taps := w.taps
  let a := { s.counters.frame with slot := tappedAmounts s.slots.amounts taps }
  let a := a.putChannel .arrived (channelAmount s taps .arrived)
  let a := a.putChannel .overwritten (channelAmount s taps .overwritten)
  let a := a.putChannel .updated (channelAmount s taps .updated)
  let a := a.putChannel .safe (channelAmount s taps .safe)
  { w with
    expired := expiringChannels s taps
    s := { s with
      slots := SlotEngine.empty
      inputs := Vector.ofFn fun c : Channel => s.inputs[c].frameEnd
      outputs := Vector.ofFn fun c : Channel =>
        s.outputs[c].frameEnd (tapFor taps c) s.cmd.params.holdLimit[c]
      counters := { s.counters with frame := a } } }

/-- The courtesy-gap update: set after a write, otherwise falling by 1 (R119). -/
def Closing.gap (w : Closing) : Closing :=
  let a := w.s.arb
  { w with
    gapRanOut := a.item == .none && a.gap == 1
    s := { w.s with arb := { a with
      gap := if a.item == .none then a.gap - 1 else w.s.cmd.params.courtesyGap } } }

/-- The scheduled test: a trigger that fires becomes IDLE and is handed on (R155). -/
def Closing.schedule (w : Closing) : Closing :=
  if w.s.snaps.firesAt w.frame.number then
    { w with fired := true, s := { w.s with snaps := { w.s.snaps with scheduled := none } } }
  else w

/-! ### The works that may meet in either order -/

/-- A record's resend countdown falls by 1, and at 0 the record is QUEUED again (R127). -/
def NoticeRecord.countDown (r : NoticeRecord) : NoticeRecord :=
  match r.state with
  | .awaiting n => { r with state := if n ≤ 1 then .queued false else .awaiting (n - 1) }
  | .queued _ => r

/-- The record's resend countdown reaches 0 at this frame end (R127). -/
def NoticeRecord.runsOut (r : NoticeRecord) : Bool :=
  match r.state with
  | .awaiting n => decide (n ≤ 1)
  | .queued _ => false

/-- The resend step (R127). -/
def Closing.resend (w : Closing) : Closing :=
  let q := w.s.notices
  { w with
    resent := (q.records.filter NoticeRecord.runsOut).map NoticeRecord.kind
    s := { w.s with notices := { q with records := q.records.map NoticeRecord.countDown } } }

/-- A notice record whose writing is decided: `delivered` or not, `resend` the NOTICE_RESEND held, `next` the next
sequence (R126). -/
def NoticeRecord.settle (delivered : Bool) (resend : Nat) (next : SequenceNumber) (r : NoticeRecord) : NoticeRecord :=
  match r.state with
  | .queued renewed =>
    if delivered then
      if renewed then { r with seq := next, state := .queued false } else { r with state := .awaiting resend }
    else { r with state := .queued false }
  | .awaiting _ => r

/-- The record of a kind is QUEUED with its renewed mark set. -/
def NoticeQueue.renewed (q : NoticeQueue) (k : NoticeKind) : Bool :=
  match q.records.find? fun r => r.kind == k with
  | some r => r.state == .queued true
  | none => false

/-- The written notice of kind `k` is delivered or not; a removed record is not found (R126). -/
def NoticeQueue.settle (q : NoticeQueue) (delivered : Bool) (resend : Nat) (k : NoticeKind) : NoticeQueue :=
  { q with
    records := modifyFirst (fun r => r.kind == k) (NoticeRecord.settle delivered resend q.seqCounter) q.records
    seqCounter := if delivered && q.renewed k then q.seqCounter + 1 else q.seqCounter }

/-- An item written in this frame is delivered: the frame ends GOOD or REGENERATED (R120). -/
def FrameOutcome.delivers : FrameOutcome → Bool
  | .good => true
  | .regenerated => true
  | .damaged => false

/-- The item written is delivered or not, and is then none (R120, R126). -/
def State.settleItem (s : State) (delivered : Bool) : State :=
  match s.arb.item with
  | .none => s
  | .notice k =>
    { s with arb := { s.arb with item := .none }
             notices := s.notices.settle delivered s.cmd.params.noticeResend k }
  | .response =>
    match s.cmd.response with
    | .unsent a =>
      if delivered then
        { s with arb := { s.arb with item := .none, sentResponse := true }
                 cmd := { s.cmd with response := .sent a } }
      else { s with arb := { s.arb with item := .none } }
    | .empty | .pending _ _ | .sent _ => { s with arb := { s.arb with item := .none } }

/-- The delivery of the item written in this frame (R120). -/
def Closing.delivery (w : Closing) : Closing := { w with s := w.s.settleItem w.outcome.delivers }

/-- NUMBER_JUMP is raised if this frame end resynchronised E (R32). -/
def Closing.jumpRaise (w : Closing) : Closing :=
  if w.frame.jumps w.outcome then
    { w with s := w.s.raise (.numberJump w.frame.number (headerNumber w.frame.header)) }
  else w

/-- OUTPUT_EXPIRED is raised if a channel expired at this frame end, with the SAFE mask after the expiries (R85). -/
def Closing.expiryRaise (w : Closing) : Closing :=
  if w.expired.isEmpty then w else { w with s := w.s.raise (.outputExpired (safeMask w.s.outputs)) }

/-- The answer of a completed copy: OK and the source bank, in a record that was PENDING (R65). -/
def ResponseRecord.copyDone (r : ResponseRecord) (src : Bank) : ResponseRecord :=
  match r with
  | .pending q t => .unsent { seq := q, tag := t, status := .ok, data := [numWord (once src.bit)] }
  | .empty => .empty
  | .unsent a => .unsent a
  | .sent a => .sent a

/-- A running copy completes (R65). -/
def Closing.copyCompletion (w : Closing) : Closing :=
  match w.s.map.copy with
  | some src =>
    { w with
      copied := true
      s := { w.s with
        map := { w.s.map with copy := none }
        cmd := { w.s.cmd with response := w.s.cmd.response.copyDone src } } }
  | none => w

/-- How the sequence record receives a unicast or claimed command (R97). -/
inductive Admission where
  | nothing | overrun | resend | execute
  deriving DecidableEq, Repr

/-- The table of R97. -/
def ResponseRecord.receive (r : ResponseRecord) (q : SequenceNumber) : Admission :=
  match r with
  | .empty => .execute
  | .pending q' _ => if q == q' then .nothing else .overrun
  | .unsent a => if q == a.seq then .nothing else .overrun
  | .sent a => if q == a.seq then .resend else .execute

/-- A SENT record returns to UNSENT with its contents (R97, R100). -/
def ResponseRecord.reopen : ResponseRecord → ResponseRecord
  | .sent a => .unsent a
  | .empty => .empty
  | .pending q t => .pending q t
  | .unsent a => .unsent a

/-- The state with its response record offered again (R97, R100). -/
def State.reopenResponse (s : State) : State :=
  { s with cmd := { s.cmd with response := s.cmd.response.reopen } }

/-- The state with the command amounts of this frame (R104). -/
def State.countCommand (s : State) (taken refused overrun resent : Bool) : State :=
  { s with cmd := { s.cmd with
    amounts := { taken := taken, refused := refused, overrun := overrun, resent := resent } } }

/-- The verdict on a command that is executed: an unknown code draws BAD_COMMAND, a known one its block's checks
(R102). -/
def verdict (r : Request) (s : State) : Taking :=
  match r.name with
  | none => .turned r (.badCommand, [])
  | some n =>
    match checkCommand n r s with
    | some t => .turned r t
    | none => .accepted r n

/-- A command is executed: its verdict is settled and counted, and an accepted command meets the other works of
the frame end (R102, R104). -/
def Closing.execute (w : Closing) (r : Request) : Closing :=
  match verdict r w.s with
  | .accepted r n => { w with taking := .accepted r n, s := (meetCommand n r w.snapshotFirst w.s).countCommand true false false false }
  | .turned r t => { w with taking := .turned r t, s := w.s.countCommand true true false false }
  | .nothing => w

/-- A unicast command passes through the unicast sequence record (R97). -/
def Closing.takeUnicast (w : Closing) (r : Request) : Closing :=
  match w.s.cmd.response.receive r.seq with
  | .nothing => w
  | .overrun => { w with s := w.s.countCommand false false true false }
  | .resend => { w with s := w.s.reopenResponse.countCommand false false false true }
  | .execute => w.execute r

/-- A claimed ASSIGN ADDRESS makes its checks before it is executed; failing them it is refused and not executed
(R97, R107). -/
def Closing.takeClaimed (w : Closing) (r : Request) : Closing :=
  match w.s.cmd.response.receive r.seq, checkAssignAddress r with
  | .execute, some _ => { w with s := w.s.countCommand false true false false }
  | _, _ => w.takeUnicast r

/-- A broadcast passes through the broadcast sequence record (R98). -/
def Closing.takeBroadcast (w : Closing) (r : Request) : Closing :=
  if w.s.cmd.broadcastSeq == some r.seq then w
  else match r.name with
    | some n =>
      if acceptsBroadcast n then
        Closing.execute { w with s := { w.s with cmd := { w.s.cmd with broadcastSeq := some r.seq } } } r
      else { w with s := w.s.countCommand false true false false }
    | none => { w with s := w.s.countCommand false true false false }

/-- The command that this frame end takes, if any: one in flight for this node in a GOOD frame (R96). -/
def takenRequest (s : State) (o : FrameOutcome) : Option Request :=
  match s.cmd.inFlight with
  | some r => if o == .good && r.cls != .none then some r else none
  | none => none

/-- The command in flight is taken, or dropped without effect and without a count (R96). -/
def Closing.command (w : Closing) : Closing :=
  match takenRequest w.s w.outcome with
  | some r =>
    match r.cls with
    | .unicast => w.takeUnicast r
    | .firstUnaddressed => w.takeClaimed r
    | .broadcast => w.takeBroadcast r
    | .none => w
  | none => w

/-- One of the works that may meet. -/
def Closing.item (w : Closing) (i : EndItem) : Closing :=
  match i with
  | .resend => w.resend
  | .delivery => w.delivery
  | .jumpRaise => w.jumpRaise
  | .expiryRaise => w.expiryRaise
  | .copyCompletion => w.copyCompletion
  | .command => w.command

/-- The standard order of the works that may meet (assumption 4). -/
def standardOrder : List EndItem := [.resend, .delivery, .jumpRaise, .expiryRaise, .copyCompletion, .command]

/-- The list without later repeats. -/
def keepFirst : List EndItem → List EndItem → List EndItem
  | _, [] => []
  | seen, i :: rest => if seen.contains i then keepFirst seen rest else i :: keepFirst (i :: seen) rest

/-- The resend step stands before the delivery and before the command (R127, R128). -/
def placeResend : List EndItem → List EndItem
  | [] => []
  | i :: rest =>
    if i == .resend then i :: rest
    else if i == .delivery || i == .command then .resend :: i :: rest.filter (· != .resend)
    else i :: placeResend rest

/-- The order in which the works that may meet are taken: those named first, the others in the standard order,
the resend step in its place (assumption 4). -/
def endItems (e : FrameClose) : List EndItem := placeResend (keepFirst [] (e.order ++ standardOrder))

/-- The works that may meet, in the order of this frame end. -/
def Closing.meet (w : Closing) (items : List EndItem) : Closing := items.foldl Closing.item w

/-! ### Counting, capture and execution -/

/-- The Command Unit, the Response Arbiter and the Notice Queue hand in their amounts and clear them; the command
in flight is cleared (R96, R104, R121, R134). -/
def Closing.deliver (w : Closing) : Closing :=
  let s := w.s
  let a := s.counters.frame
  let a := a.putNode .commandTaken (once s.cmd.amounts.taken)
  let a := a.putNode .commandRefused (once s.cmd.amounts.refused)
  let a := a.putNode .commandOverrun (once s.cmd.amounts.overrun)
  let a := a.putNode .responseResent (once s.cmd.amounts.resent)
  let a := a.putNode .regionWritten (once s.arb.written)
  let a := a.putNode .regionDenied (once s.arb.denied)
  let a := a.putNode .responseSent (once s.arb.sentResponse)
  let a := a.putNode .noticeDropped s.notices.pendingDrops
  { w with s := { s with
    cmd := { s.cmd with inFlight := none, amounts := CommandAmounts.zero }
    arb := { s.arb with item := .none, written := false, denied := false, sentResponse := false }
    notices := { s.notices with pendingDrops := 0 }
    counters := { s.counters with frame := a } } }

/-- The command executed is a TAKE SNAPSHOT in the now form (R154, R159). -/
def Taking.captures : Taking → Bool
  | .accepted r .takeSnapshot => r.count == 0
  | _ => false

/-- The triggers of this frame end, once the counters have been evaluated from bank `b` (R154). -/
def Closing.causes (w : Closing) (b : CounterBank) : Causes :=
  { command := w.taking.captures, scheduled := w.fired, wrap := b.wrapTrigger
    syncLoss := w.s.snaps.syncLossMark && w.s.cmd.params.snapOnSyncLoss }

/-- What the command executed at this frame end does before the Snapshot Unit raises its notice, where it does not come
after it: a lowered HOLD_LIMIT expires its channel (R86, R124; assumption 16). -/
def Taking.beforeCapture (t : Taking) (s : State) : State :=
  match t with
  | .accepted r .setParameter => limitBeforeCapture r s
  | _ => s

/-- The frame end with the command's work before the capture done, unless the capture comes first. -/
def Closing.beforeCapture (w : Closing) : Closing :=
  if w.snapshotFirst then w else { w with s := w.taking.beforeCapture w.s }

/-- Evaluation and capture (R143, steps 2 to 4; R158, steps 3 to 5). -/
def Closing.count (w : Closing) : Closing :=
  let b := w.s.counters
  { w with
    wrapped := (List.finRange 16).filter fun i => b.wrapsAt i
    s := State.captureStep { w.s with counters := b.evaluate } w.frame.number (w.causes b) }

/-- The response record takes the answer of a unicast or claimed command; a broadcast leaves it alone (R98, R102). -/
def State.answer (s : State) (r : Request) (x : ResponseRecord) : State :=
  match r.cls with
  | .unicast | .firstUnaddressed => { s with cmd := { s.cmd with response := x } }
  | .broadcast | .none => s

/-- The answer of an accepted command: PENDING for COPY ACTIVE, otherwise UNSENT with OK (R63, R100, R102). -/
def okAnswer (n : CommandName) (r : Request) (data : List Word) : ResponseRecord :=
  match n with
  | .copyActive => .pending r.seq r.tag
  | _ => .unsent { seq := r.seq, tag := r.tag, status := .ok, data := data }

/-- The command executed at this frame end acts and is answered (R102, R143 step 5, R158 step 6). -/
def Taking.run (t : Taking) (capture : Capture) (s : State) : State :=
  match t with
  | .nothing => s
  | .turned r (st, data) => s.answer r (.unsent { seq := r.seq, tag := r.tag, status := st, data := data })
  | .accepted r n =>
    let done := doCommand n r capture s
    done.1.answer r (okAnswer n r done.2)

/-- What the Snapshot Unit does with the triggers of this frame end (R156, R157). -/
def Closing.capture (w : Closing) : Capture := w.s.snaps.outcome (w.causes w.s.counters)

/-! ### The whole frame end -/

/-- The frame end up to the works that may meet: the line, the Link Receiver, the slots and samples, the courtesy
gap and the scheduled test. -/
def Closing.begin (f : FrameInFlight) (e : FrameClose) (s : State) : Closing :=
  Closing.schedule <| Closing.gap <| Closing.samples <| Closing.link
    { s := s.closeLine f e.check, frame := f, outcome := f.outcome e.check, expired := [], resent := []
      gapRanOut := false, fired := false, copied := false, taking := .nothing, snapshotFirst := e.snapshotFirst
      wrapped := [] }

/-- The frame end before its counting: all amounts are in (R139). -/
def Closing.settled (f : FrameInFlight) (e : FrameClose) (s : State) : Closing :=
  ((Closing.begin f e s).meet (endItems e)).deliver

/-- The end of processed frame `f` (R30). -/
def closeFrame (f : FrameInFlight) (e : FrameClose) (s : State) : Closing :=
  let w := Closing.settled f e s
  let c := w.beforeCapture.count
  { c with s := w.taking.run w.capture c.s }

end Sys2Proof.Machine
end

