-- ==== Sys2Proof/Machine/Rows.lean ====
section
/-! DEFINITION. The rows of a frame end: FRAME_END, the rows that name a particular happening of a frame end, and
the rows of the commands. A frame end is one indivisible step (95_what_each_step_holds.md), so each of these rows is
the whole frame end at which its happening comes about, and changes nothing where it does not (assumptions 2, 3). -/

namespace Sys2Proof.Machine

/-- The frame end of the frame in flight, words 1 to 75 of which have passed, when it is one at which `p` holds; the
state as it stands otherwise. -/
def atFrameEnd (p : Closing → Bool) (e : FrameClose) (s : State) : State :=
  match s.frameAt 76 with
  | some f => if p (closeFrame f e s) then (closeFrame f e s).s else s
  | none => s

/-- The frame end takes a command (R96) of the given name, whose parameters satisfy `q`. -/
def takesCommand (n : CommandName) (q : Request → Bool) (s : State) (w : Closing) : Bool :=
  match takenRequest s w.outcome with
  | some r => r.name == some n && q r
  | none => false

/-- A command of the given name, with parameters that satisfy `q`, taken at the end of the GOOD frame that carries
it (R96); the state as it stands where the frame end takes no such command. -/
def commandAt (n : CommandName) (q : Request → Bool) (e : FrameClose) (s : State) : State :=
  atFrameEnd (takesCommand n q s) e s

/-- A processed frame's end (R30). -/
def execFrameEnd (e : FrameClose) (s : State) : Host.Outcome State Fault Refusal :=
  happens s (atFrameEnd (fun _ => true) e s)

/-- The frame end at which output channel `c` expires (R85). -/
def execOutputExpiry (c : Channel) (e : FrameClose) (s : State) : Host.Outcome State Fault Refusal :=
  happens s (atFrameEnd (fun w => w.expired.contains c) e s)

/-- The frame end at which the courtesy-gap countdown reaches 0 (R119). -/
def execCourtesyGapRunsOut (e : FrameClose) (s : State) : Host.Outcome State Fault Refusal :=
  happens s (atFrameEnd Closing.gapRanOut e s)

/-- The frame end at which the AWAITING record of kind `k` is QUEUED again (R127). -/
def execNoticeResend (k : NoticeKind) (e : FrameClose) (s : State) : Host.Outcome State Fault Refusal :=
  happens s (atFrameEnd (fun w => w.resent.contains k) e s)

/-- The frame end whose evaluation wraps counter `i` (R142). -/
def execCounterWrap (i : CounterIndex) (e : FrameClose) (s : State) : Host.Outcome State Fault Refusal :=
  happens s (atFrameEnd (fun w => w.wrapped.contains i) e s)

/-- The frame end at which the scheduled trigger fires (R155). -/
def execScheduledSnapshotFire (e : FrameClose) (s : State) : Host.Outcome State Fault Refusal :=
  happens s (atFrameEnd Closing.fired e s)

/-- The frame end at which a running copy completes (R65). -/
def execCopyComplete (e : FrameClose) (s : State) : Host.Outcome State Fault Refusal :=
  happens s (atFrameEnd Closing.copied e s)

/-- IDENTIFY is taken: the node answers with its identity record (R105). -/
def execIdentify (e : FrameClose) (s : State) : Host.Outcome State Fault Refusal :=
  happens s (commandAt .identify (fun _ => true) e s)

/-- ASSIGN ADDRESS is taken: the node address becomes the new value (R106, R107). -/
def execAssignAddress (e : FrameClose) (s : State) : Host.Outcome State Fault Refusal :=
  happens s (commandAt .assignAddress (fun _ => true) e s)

/-- NODE RESET is taken: every block but the Link Receiver, the address and the sequence records takes its reset values (R109, R110). -/
def execNodeReset (e : FrameClose) (s : State) : Host.Outcome State Fault Refusal :=
  happens s (commandAt .nodeReset (fun _ => true) e s)

/-- READ STATUS is taken: the node answers with four words of its state (R111). -/
def execReadStatus (e : FrameClose) (s : State) : Host.Outcome State Fault Refusal :=
  happens s (commandAt .readStatus (fun _ => true) e s)

/-- SET PARAMETER is taken: a parameter takes a new value and its owner acts on the change (R113). -/
def execSetParameter (e : FrameClose) (s : State) : Host.Outcome State Fault Refusal :=
  happens s (commandAt .setParameter (fun _ => true) e s)

/-- GET PARAMETER is taken: the node answers with the value held (R114). -/
def execGetParameter (e : FrameClose) (s : State) : Host.Outcome State Fault Refusal :=
  happens s (commandAt .getParameter (fun _ => true) e s)

/-- WRITE ENTRIES is taken: 1 to 6 entries are written into the shadow bank (R58 to R60). -/
def execWriteEntries (e : FrameClose) (s : State) : Host.Outcome State Fault Refusal :=
  happens s (commandAt .writeEntries (fun _ => true) e s)

/-- READ ENTRIES is taken: the node answers with 1 to 8 entries of a bank (R61, R62). -/
def execReadEntries (e : FrameClose) (s : State) : Host.Outcome State Fault Refusal :=
  happens s (commandAt .readEntries (fun _ => true) e s)

/-- COPY ACTIVE is taken: the copy state becomes RUNNING and the record PENDING (R63). -/
def execCopyActive (e : FrameClose) (s : State) : Host.Outcome State Fault Refusal :=
  happens s (commandAt .copyActive (fun _ => true) e s)

/-- COMMIT is taken: the commit is ARMED with F (R67 to R69, R73). -/
def execCommit (e : FrameClose) (s : State) : Host.Outcome State Fault Refusal :=
  happens s (commandAt .commit (fun _ => true) e s)

/-- CANCEL COMMIT is taken: an ARMED commit becomes IDLE (R72, R73). -/
def execCancelCommit (e : FrameClose) (s : State) : Host.Outcome State Fault Refusal :=
  happens s (commandAt .cancelCommit (fun _ => true) e s)

/-- ACKNOWLEDGE NOTICE is taken: the first AWAITING record with the sequence is removed (R128, R129). -/
def execAcknowledgeNotice (e : FrameClose) (s : State) : Host.Outcome State Fault Refusal :=
  happens s (commandAt .acknowledgeNotice (fun _ => true) e s)

/-- SET COUNTER is taken: a counter takes a control word and a preset (R144, R145). -/
def execSetCounter (e : FrameClose) (s : State) : Host.Outcome State Fault Refusal :=
  happens s (commandAt .setCounter (fun _ => true) e s)

/-- GET COUNTER CONTROL is taken: the node answers with a control word and its flags (R146). -/
def execGetCounterControl (e : FrameClose) (s : State) : Host.Outcome State Fault Refusal :=
  happens s (commandAt .getCounterControl (fun _ => true) e s)

/-- READ COUNTERS is taken: the node answers with one or two values (R147). -/
def execReadCounters (e : FrameClose) (s : State) : Host.Outcome State Fault Refusal :=
  happens s (commandAt .readCounters (fun _ => true) e s)

/-- CLEAR COUNTERS is taken: the counters of a mask are set to 0 (R148). -/
def execClearCounters (e : FrameClose) (s : State) : Host.Outcome State Fault Refusal :=
  happens s (commandAt .clearCounters (fun _ => true) e s)

/-- GATE start is taken: a STOPPED gate becomes RUNNING (R149). -/
def execGateStart (e : FrameClose) (s : State) : Host.Outcome State Fault Refusal :=
  happens s (commandAt .gate (fun r => r.p0 == 1) e s)

/-- GATE stop, or a GATE whose value is not start is taken: a RUNNING gate becomes STOPPED (R149, R150). -/
def execGateStop (e : FrameClose) (s : State) : Host.Outcome State Fault Refusal :=
  happens s (commandAt .gate (fun r => r.p0 != 1) e s)

/-- TAKE SNAPSHOT in the now form is taken: a COMMAND trigger joins the frame end's capture (R159). -/
def execTakeSnapshotNow (e : FrameClose) (s : State) : Host.Outcome State Fault Refusal :=
  happens s (commandAt .takeSnapshot (fun r => r.count == 0) e s)

/-- TAKE SNAPSHOT in any form but the now form is taken: the scheduled trigger is ARMED with F (R160). -/
def execTakeSnapshotScheduled (e : FrameClose) (s : State) : Host.Outcome State Fault Refusal :=
  happens s (commandAt .takeSnapshot (fun r => r.count != 0) e s)

/-- CANCEL SNAPSHOT is taken: an ARMED scheduled trigger becomes IDLE (R161). -/
def execCancelSnapshot (e : FrameClose) (s : State) : Host.Outcome State Fault Refusal :=
  happens s (commandAt .cancelSnapshot (fun _ => true) e s)

/-- READ SNAPSHOT is taken: the node answers with one part of the oldest record (R162). -/
def execReadSnapshot (e : FrameClose) (s : State) : Host.Outcome State Fault Refusal :=
  happens s (commandAt .readSnapshot (fun _ => true) e s)

/-- RELEASE SNAPSHOT is taken: the oldest record is removed (R163). -/
def execReleaseSnapshot (e : FrameClose) (s : State) : Host.Outcome State Fault Refusal :=
  happens s (commandAt .releaseSnapshot (fun _ => true) e s)

end Sys2Proof.Machine
end

