-- ==== Sys2Proof/Machine/Dispatch.lean ====
section
/-! DEFINITION. One arm for each row of the table: its meaning. -/

namespace Sys2Proof.Machine

def exec (i : Instr) (s : State) : Host.Outcome State Fault Refusal :=
  match i with
  | .powerOn t => Sys2Proof.Machine.execPowerOn t s
  | .resetPinLow t => Sys2Proof.Machine.execResetPinLow t s
  | .resetPinRelease t => Sys2Proof.Machine.execResetPinRelease t s
  | .startupIdleFillEnds => Sys2Proof.Machine.execStartupIdleFillEnds s
  | .regeneratedFrameStart => Sys2Proof.Machine.execRegeneratedFrameStart s
  | .syncFoundInHunt p => Sys2Proof.Machine.execSyncFoundInHunt p s
  | .candidateCheckWord content check => Sys2Proof.Machine.execCandidateCheckWord content check s
  | .secondSyncJudged window => Sys2Proof.Machine.execSecondSyncJudged window s
  | .syncFoundInLocked => Sys2Proof.Machine.execSyncFoundInLocked s
  | .syncMissInLocked => Sys2Proof.Machine.execSyncMissInLocked s
  | .syncFoundInFlywheel => Sys2Proof.Machine.execSyncFoundInFlywheel s
  | .syncMissInFlywheel => Sys2Proof.Machine.execSyncMissInFlywheel s
  | .syncFoundElsewhereInFlywheel p => Sys2Proof.Machine.execSyncFoundElsewhereInFlywheel p s
  | .headerTime w => Sys2Proof.Machine.execHeaderTime w s
  | .commitFire w => Sys2Proof.Machine.execCommitFire w s
  | .slotInFlight w => Sys2Proof.Machine.execSlotInFlight w s
  | .commandRegionHeader w names p0 p1 p2 p3 => Sys2Proof.Machine.execCommandRegionHeader w names p0 p1 p2 p3 s
  | .responseRegionHeader w d0 d1 d2 d3 => Sys2Proof.Machine.execResponseRegionHeader w d0 d1 d2 d3 s
  | .sampleArrival c v => Sys2Proof.Machine.execSampleArrival c v s
  | .frameEnd e => Sys2Proof.Machine.execFrameEnd e s
  | .outputExpiry c e => Sys2Proof.Machine.execOutputExpiry c e s
  | .courtesyGapRunsOut e => Sys2Proof.Machine.execCourtesyGapRunsOut e s
  | .noticeResend k e => Sys2Proof.Machine.execNoticeResend k e s
  | .counterWrap k e => Sys2Proof.Machine.execCounterWrap k e s
  | .scheduledSnapshotFire e => Sys2Proof.Machine.execScheduledSnapshotFire e s
  | .copyComplete e => Sys2Proof.Machine.execCopyComplete e s
  | .identify e => Sys2Proof.Machine.execIdentify e s
  | .assignAddress e => Sys2Proof.Machine.execAssignAddress e s
  | .nodeReset e => Sys2Proof.Machine.execNodeReset e s
  | .readStatus e => Sys2Proof.Machine.execReadStatus e s
  | .setParameter e => Sys2Proof.Machine.execSetParameter e s
  | .getParameter e => Sys2Proof.Machine.execGetParameter e s
  | .writeEntries e => Sys2Proof.Machine.execWriteEntries e s
  | .readEntries e => Sys2Proof.Machine.execReadEntries e s
  | .copyActive e => Sys2Proof.Machine.execCopyActive e s
  | .commit e => Sys2Proof.Machine.execCommit e s
  | .cancelCommit e => Sys2Proof.Machine.execCancelCommit e s
  | .acknowledgeNotice e => Sys2Proof.Machine.execAcknowledgeNotice e s
  | .setCounter e => Sys2Proof.Machine.execSetCounter e s
  | .getCounterControl e => Sys2Proof.Machine.execGetCounterControl e s
  | .readCounters e => Sys2Proof.Machine.execReadCounters e s
  | .clearCounters e => Sys2Proof.Machine.execClearCounters e s
  | .gateStart e => Sys2Proof.Machine.execGateStart e s
  | .gateStop e => Sys2Proof.Machine.execGateStop e s
  | .takeSnapshotNow e => Sys2Proof.Machine.execTakeSnapshotNow e s
  | .takeSnapshotScheduled e => Sys2Proof.Machine.execTakeSnapshotScheduled e s
  | .cancelSnapshot e => Sys2Proof.Machine.execCancelSnapshot e s
  | .readSnapshot e => Sys2Proof.Machine.execReadSnapshot e s
  | .releaseSnapshot e => Sys2Proof.Machine.execReleaseSnapshot e s

end Sys2Proof.Machine
end

