-- ==== Sys2Proof/Machine/Step.lean ====
section
/-! DEFINITION. One step: the happening at the front of the queue. -/

namespace Sys2Proof.Machine

/-- The happening at the front of the queue reaches the node; on an empty queue the node idles (assumption 5). -/
def step (s : State) : Host.Outcome State Fault Refusal :=
  match s.pending with
  | [] => .next s
  | i :: rest => exec i { s with pending := rest }

/-- The state with the happening that a word spells put at the front of its queue, unchanged where the word
spells none (assumption 17). -/
def State.withFetchWord (s : State) (nbits w : Nat) : State :=
  match decodeTableWord nbits w with
  | some i => { s with pending := i :: s.pending }
  | none => s

end Sys2Proof.Machine
end

