-- ==== Sys2Proof/Safety.lean ====
section
/-! DEFINITION. What every state of a run must keep: the laws that the manual states of the node at every moment, each
as an invariant of its own, and the node's reset values block by block. Claims are stated in these terms. -/

namespace Sys2Proof.Machine

/-! ### Reset values -/

/-- Both banks hold the all-zero entry in every slot, and bank A is active (R35). -/
def BanksReset (m : MapStore) : Prop :=
  (∀ i : SlotNumber, m.bankA[i].bits = 0 ∧ m.bankB[i].bits = 0) ∧ m.active = .a

/-- What all three resets leave alike, NODE RESET among them: the commit and copy states, the Slot Engine, the Sample
Channels, the parameter table, the courtesy gap, the Counter Bank and the Snapshot Unit stand at their reset values
(R38, R55, R76, R81, R82, R88, R112, R115, R135, R136, R153). -/
structure ConfigurationReset (s : State) : Prop where
  /-- commit IDLE, copy IDLE (R55) -/
  idle : s.map.commit = none ∧ s.map.copy = none
  /-- both per-frame items of the Slot Engine empty (R38) -/
  slots : s.slots.staged = [] ∧ ∀ src cls : Fin 8, s.slots.amounts[src][cls] = 0
  /-- every input channel NEVER with no amount pending (R76) -/
  inputs : ∀ c : Channel, s.inputs[c].state = .never ∧ s.inputs[c].arrived = 0 ∧ s.inputs[c].overwritten = 0
  /-- every output channel UNASSIGNED, presenting 0 (R82, R88) -/
  outputs : ∀ c : Channel, s.outputs[c] = .unassigned ∧ s.sout c = 0
  /-- every parameter at its default (R112) -/
  params : s.cmd.params.courtesyGap = 2 ∧ s.cmd.params.flywheelLimit = 4 ∧ s.cmd.params.noticeResend = 400
    ∧ s.cmd.params.noticeMask = 255 ∧ s.cmd.params.snapOnSyncLoss = false
    ∧ ∀ c : Channel, s.cmd.params.holdLimit[c] = 40 ∧ s.cmd.params.safeValue[c] = 0
  /-- no command in flight, no command amount (R91, R96, R104) -/
  command : s.cmd.inFlight = none ∧ s.cmd.amounts = CommandAmounts.zero
  /-- countdown 0, no item written, no region amount (R115) -/
  arbiter : s.arb.gap = 0 ∧ s.arb.item = .none ∧ s.arb.written = false ∧ s.arb.denied = false
    ∧ s.arb.sentResponse = false
  /-- every counter 0, disabled, its flags clear; gate STOPPED (R135) -/
  counters : (∀ i : CounterIndex, s.counters.bank[i].value = 0 ∧ s.counters.bank[i].control.bits = 0
    ∧ s.counters.bank[i].wrapFlag = false ∧ s.counters.bank[i].previous = false) ∧ s.counters.gate = false
  /-- queue empty, trigger IDLE, serial 0, lost count 0, mark clear (R153) -/
  snaps : s.snaps.queue = [] ∧ s.snaps.scheduled = none ∧ s.snaps.serial = 0 ∧ s.snaps.lost = 0
    ∧ s.snaps.syncLossMark = false

/-- Every block but the Notice Queue stands at the values it takes at power-on and at the reset pin (R14, R35, R38,
R55, R76, R82, R91, R112, R115, R135, R153). -/
structure AtReset (s : State) : Prop extends ConfigurationReset s where
  /-- both banks all zero, bank A active, nothing left to reset (R35, R55) -/
  banks : BanksReset s.map ∧ s.map.resetDue = false
  /-- HUNT, miss count 0, no position, E 0, lost flag clear, unlocked-frame count 0, nothing pending (R14) -/
  link : s.link.state = .hunt ∧ s.link.missCount = 0 ∧ s.link.expectedPos = none ∧ s.link.candidatePos = none
    ∧ s.link.E = 0 ∧ s.link.lostFlag = false ∧ s.link.unlocked = 0 ∧ s.link.pendMiss = 0 ∧ s.link.pendDropped = 0
  /-- address 0, no sequence, EMPTY record (R91) -/
  records : s.cmd.address = 0 ∧ s.cmd.response.sequence = none ∧ s.cmd.response = .empty ∧ s.cmd.broadcastSeq = none

/-! ### Invariants -/

/-- The snapshot queue holds at most 4 records and the lost count is 0 to 255 (R156, R157). -/
structure SnapshotsBounded (s : State) : Prop where
  depth : s.snaps.queue.length ≤ 4
  lost : s.snaps.lost ≤ 255

/-- The notice queue holds at most 6 records, no two of one kind and none of a masked kind; repeat counts are at most
127 and the dropped count at most 255 (R124, R125, R130, R131). -/
structure NoticesDistinct (s : State) : Prop where
  places : s.notices.records.length ≤ 6
  kinds : (s.notices.records.map NoticeRecord.kind).Nodup
  enabled : ∀ r ∈ s.notices.records, s.cmd.params.noticeMask.getLsbD (noticeIndex r.kind).val = true
  repeats : ∀ r ∈ s.notices.records, r.repeats ≤ 127
  dropped : s.notices.dropped ≤ 255

/-- No two TAP or DRAIN entries of a bank name one output channel (R36, R68). -/
def ConflictFree (v : MapBank) : Prop :=
  ∀ i j : SlotNumber, i ≠ j → v[i].taps = true → v[j].taps = true → v[i].channel ≠ v[j].channel

/-- The first law of R36, and R56: the active bank is free of conflicts; while the commit is ARMED the shadow bank is
too, and no copy runs; a running copy has the active bank as its source (R64). Between a NODE RESET and the next header
time nothing is armed and no copy runs (R55). -/
structure MapLaw (s : State) : Prop where
  active : ConflictFree (s.map.bank s.map.active)
  armedShadow : s.map.commit ≠ none → ConflictFree s.map.shadow
  armedCopy : s.map.commit ≠ none → s.map.copy = none
  source : ∀ k, s.map.copy = some k → k = s.map.active
  due : s.map.resetDue = true → s.map.commit = none ∧ s.map.copy = none ∧ ∀ f, s.frame = some f → f.pos = 1

/-- A copy runs only while the response record is PENDING (R59, R65, R110). -/
def CopyAnswersLater (s : State) : Prop :=
  s.map.copy ≠ none → ∃ q t, s.cmd.response = .pending q t

/-- The second law of R36, with what it rests on: while the address is 0 every entry of either bank is PASS, nothing
is armed, no copy runs, and the only command held for the node itself is a claimed ASSIGN ADDRESS (R93). -/
structure UnaddressedLaw (s : State) : Prop where
  pass : s.cmd.address = 0 → ∀ (k : Bank) (i : SlotNumber), (s.map.bank k)[i].action = .pass
  idle : s.cmd.address = 0 → s.map.commit = none ∧ s.map.copy = none
  held : s.cmd.address = 0 → ∀ r, s.cmd.inFlight = some r →
    r.cls ≠ .unicast ∧ (r.cls = .firstUnaddressed → r.name = some .assignAddress)
  range : s.cmd.address.toNat ≤ 61

/-- A LIVE output channel whose hold limit L is not 0 has age less than L (R85). -/
def LiveWithinLimit (s : State) : Prop :=
  ∀ (c : Channel) (v : Sample) (age : Nat), s.outputs[c] = .live v age →
    s.cmd.params.holdLimit[c] ≠ 0 → age < s.cmd.params.holdLimit[c]

/-- The link state and what it stands on: the positions held in each state (section 2.1), the lost flag clear in
LOCKED and FLYWHEEL (R22), the miss count below the limit in FLYWHEEL and never above 15 (R21), and a forwarded frame
in flight only while LOCKED (R92). -/
structure LinkLaw (s : State) : Prop where
  expected : s.link.expectedPos.isSome = (s.link.state == .locked || s.link.state == .flywheel)
  candidate : s.link.candidatePos.isSome = (s.link.state == .verify)
  flag : s.link.state = .locked ∨ s.link.state = .flywheel → s.link.lostFlag = false
  limit : 1 ≤ s.cmd.params.flywheelLimit ∧ s.cmd.params.flywheelLimit ≤ 15
  misses : s.link.missCount ≤ 15
  locked : s.link.state = .locked → s.link.missCount = 0
  flywheel : s.link.state = .flywheel → s.link.missCount < s.cmd.params.flywheelLimit
  forwarded : ∀ f, s.frame = some f → f.regenerated = false → s.link.state = .locked

/-- The frame in flight keeps the number and the bank of its header time: E is its number and the active bank its bank
(R31, R37). -/
def FrameKeepsItsNumber (s : State) : Prop :=
  ∀ f, s.frame = some f → f.number = s.link.E ∧ f.bank = s.map.active

/-- The words of the frame in flight: the sync word first, as many as have passed, in the order of R1, and the
check word's remainder taken over those after the sync word (R1, R11). -/
structure FrameWords (s : State) : Prop where
  sync : ∀ f, s.frame = some f → s.tx.sent.head? = some 0xF35C0A69#32
  count : ∀ f, s.frame = some f → s.tx.sent.length = f.pos
  position : ∀ f, s.frame = some f → 1 ≤ f.pos ∧ (f.pos ≤ 66 ∨ f.pos = 71 ∨ f.pos = 76)
  remainder : ∀ f, s.frame = some f → f.txCrc = crcWords 0xFFFFFFFF#32 s.tx.sent.tail

/-- The staged taps name distinct output channels, each by a TAP or DRAIN entry of the frame's bank whose slot has
passed; between frames and before a frame's first slot there are none (R38, R50). -/
structure StagedOnce (s : State) : Prop where
  distinct : (s.slots.staged.map TapRecord.channel).Nodup
  passed : ∀ f, s.frame = some f → ∀ t ∈ s.slots.staged, ∃ i : SlotNumber,
    i.val + 2 < f.pos ∧ (s.map.bank f.bank)[i].taps = true ∧ (s.map.bank f.bank)[i].channel = t.channel
  between : s.frame = none → s.slots.staged = []

/-- While a copy runs, every slot of the frame in flight that has passed holds the same entry in both banks (R64). -/
def CopyKeepsUp (s : State) : Prop :=
  s.map.copy ≠ none → ∀ f, s.frame = some f → ∀ i : SlotNumber, i.val + 2 < f.pos →
    (s.map.bankA)[i] = (s.map.bankB)[i]

/-- Every parameter stands in its range (R112), the courtesy-gap countdown is 0 to 15 and a resend countdown 1 to
4,095 (section 7). -/
structure ParametersInRange (s : State) : Prop where
  gap : s.cmd.params.courtesyGap ≤ 15 ∧ s.arb.gap ≤ 15
  limit : 1 ≤ s.cmd.params.flywheelLimit ∧ s.cmd.params.flywheelLimit ≤ 15
  resend : 16 ≤ s.cmd.params.noticeResend ∧ s.cmd.params.noticeResend ≤ 4095
  hold : ∀ c : Channel, s.cmd.params.holdLimit[c] ≤ 255
  countdown : ∀ r ∈ s.notices.records, ∀ n, r.state = .awaiting n → 1 ≤ n ∧ n ≤ 4095

/-- The response record's data count is 0 to 4, and is 0 for every status but OK and MAP_CONFLICT (R99, R102). -/
structure AnswerFits (s : State) : Prop where
  data : ∀ a, s.cmd.response = .unsent a ∨ s.cmd.response = .sent a →
    a.data.length ≤ 4 ∧ (a.status ≠ .ok → a.status ≠ .mapConflict → a.data = [])
      ∧ (a.status = .mapConflict → a.data.length = 2)

/-- Before a frame's end the events that only its end counts are not counted yet: the command amounts and RESPONSE_SENT
are 0 (R104, R121); while the response is the item written, the record is UNSENT (R117). -/
structure EventsFresh (s : State) : Prop where
  command : s.cmd.amounts = CommandAmounts.zero
  sent : s.arb.sentResponse = false
  written : s.arb.item = .response → ∃ a, s.cmd.response = .unsent a

/-! ### Occasions: when a happening comes about -/

/-- The node runs, and words 1 to 75 of frame `f` have passed: its end is next (R29). -/
structure AtEnd (s : State) (f : FrameInFlight) : Prop where
  up : s.resetHeld = false
  flight : s.frame = some f
  last : f.pos = 76

/-- The frame in flight is at its end, was forwarded, and its check word passes: it ends GOOD (R29). -/
structure AtGoodEnd (s : State) (f : FrameInFlight) (e : FrameClose) : Prop extends AtEnd s f where
  forwarded : f.regenerated = false
  passes : e.check = crcValue f.rxCrc

/-- The frame ends GOOD and carries the unicast command `n` for this node, new to a sequence record that is EMPTY or
SENT: the command is executed (R96, R97). -/
structure Executes (s : State) (f : FrameInFlight) (e : FrameClose) (r : Request) (n : CommandName) : Prop
    extends AtGoodEnd s f e where
  held : s.cmd.inFlight = some r
  name : r.name = some n
  unicast : r.cls = .unicast
  unseen : s.cmd.response = .empty ∨ ∃ a, s.cmd.response = .sent a ∧ a.seq ≠ r.seq

/-- The frame ends GOOD and carries the broadcast command `n` under a new broadcast sequence (R98). -/
structure HearsBroadcast (s : State) (f : FrameInFlight) (e : FrameClose) (r : Request) (n : CommandName) : Prop
    extends AtGoodEnd s f e where
  held : s.cmd.inFlight = some r
  name : r.name = some n
  broadcast : r.cls = .broadcast
  unseen : s.cmd.broadcastSeq ≠ some r.seq

/-- No command is taken at the frame end: none is held for this node (R93, R96). -/
def NoCommand (s : State) : Prop := ∀ r, s.cmd.inFlight = some r → r.cls = .none

/-- The frame ends GOOD and its command `n` is executed, as a unicast or as a broadcast (R97, R98). -/
def Carries (s : State) (f : FrameInFlight) (e : FrameClose) (r : Request) (n : CommandName) : Prop :=
  Executes s f e r n ∨ HearsBroadcast s f e r n

/-- Nothing of the frame end's own work reaches the counters, the snapshots or the response record, and no notice is
delivered: no item was written, the gate is STOPPED, no trigger is armed or marked, and no copy runs. -/
structure Calm (s : State) : Prop where
  item : s.arb.item = .none
  gate : s.counters.gate = false
  scheduled : s.snaps.scheduled = none
  mark : s.snaps.syncLossMark = false
  copy : s.map.copy = none

/-- The frame end raises no notice of its own: the received number agrees (R32) and no output channel is LIVE (R85). -/
structure NothingRaised (s : State) (f : FrameInFlight) : Prop where
  number : headerNumber f.header = f.number
  outputs : ∀ (c : Channel) (v : Sample) (age : Nat), s.outputs[c] ≠ .live v age

/-- The frame in flight ends GOOD with check word `check`: it was forwarded, and the check passes (R29). -/
def EndsGood (f : FrameInFlight) (check : Word) : Prop := f.regenerated = false ∧ check = crcValue f.rxCrc

/-- The notice records after a frame end's resend step: each resend countdown one less, and QUEUED at 0 (R127). -/
def Resent (records : List NoticeRecord) : List NoticeRecord :=
  records.map fun r => match r.state with
    | .awaiting n => { r with state := if n ≤ 1 then .queued false else .awaiting (n - 1) }
    | .queued _ => r

/-- At frame end `e` work `i` is taken before work `j` (assumption 4). -/
def Precedes (e : FrameClose) (i j : EndItem) : Prop := (endItems e).idxOf i < (endItems e).idxOf j

/-- The written response is delivered, at a GOOD end, before the command is taken (R101, R120). -/
def SentBefore (s : State) (e : FrameClose) : Prop := s.arb.item = .response ∧ Precedes e .delivery .command

/-- The response record, as command `r` of a GOOD end meets it, lets it through: EMPTY, or SENT with another sequence,
the delivery of this frame end included if it comes first (R97, R101). -/
def NewTo (s : State) (e : FrameClose) (r : Request) : Prop :=
  s.cmd.response = .empty
    ∨ ∃ a, (s.cmd.response = .sent a ∨ (s.cmd.response = .unsent a ∧ SentBefore s e)) ∧ a.seq ≠ r.seq

/-- The response record, as command `r` of a GOOD end meets it, is SENT with the command's own sequence (R97, R101). -/
def RepeatOf (s : State) (e : FrameClose) (r : Request) : Prop :=
  ∃ a, (s.cmd.response = .sent a ∨ (s.cmd.response = .unsent a ∧ SentBefore s e)) ∧ a.seq = r.seq

/-- The response record, as command `r` of a GOOD end meets it, is PENDING or UNSENT with another sequence (R97, R101). -/
def Overruns (s : State) (e : FrameClose) (r : Request) : Prop :=
  (∃ q t, s.cmd.response = .pending q t ∧ q ≠ r.seq)
    ∨ ∃ a, s.cmd.response = .unsent a ∧ ¬SentBefore s e ∧ a.seq ≠ r.seq

/-- The node as the command of frame end `e` meets it: every work that comes before the command is done. -/
def metByCommand (s : State) (f : FrameInFlight) (e : FrameClose) : State :=
  ((Closing.begin f e s).meet ((endItems e).takeWhile (· != .command))).s

/-- The node as the Snapshot Unit's work of frame end `e` meets it: every block's amounts are delivered (R134, R139,
R158). -/
def atCapture (s : State) (f : FrameInFlight) (e : FrameClose) : State := (Closing.settled f e s).s

/-- With the gate STOPPED and no TAKE SNAPSHOT now, the end of frame `f` brings a trigger: the schedule fires, or sync
was lost under SNAP_ON_SYNC_LOSS 1 (R154, R155). -/
def Triggers (s : State) (f : FrameInFlight) : Prop :=
  (∃ F, s.snaps.scheduled = some F ∧ (f.number - F).toNat < 131072)
    ∨ (s.snaps.syncLossMark = true ∧ s.cmd.params.snapOnSyncLoss = true)

/-- The notice the Snapshot Unit raises for a trigger at the end of frame `f`: SNAPSHOT_READY for a capture, and
SNAPSHOT_LOST where the queue holds 4 records (R156, R157). -/
def captureNotice (s : State) (f : FrameInFlight) : Notice :=
  if s.snaps.queue.length < 4 then .snapshotReady f.number (s.snaps.queue.length + 1) s.snaps.serial
  else .snapshotLost (min 255 (s.snaps.lost + 1))

/-- Command `r`, met by the node in state `t`, draws status `st` and data `data` instead of being accepted: an unknown
code draws BAD_COMMAND, and a known one what the first of its checks that fails gives (R57, R102). -/
def Refuses (t : State) (r : Request) (st : Status) (data : List Word) : Prop :=
  (r.name = none ∧ st = .badCommand ∧ data = [])
    ∨ ∃ n, r.name = some n ∧ checkCommand n r t = some (st, data)

/-- A broadcast of this code is executed where its sequence is new; every other is ignored (R98). -/
def BroadcastName (n : Option CommandName) : Prop :=
  n ∈ [some .nodeReset, some .commit, some .cancelCommit, some .gate, some .takeSnapshot, some .cancelSnapshot]

/-- A claimed ASSIGN ADDRESS passes its checks (R107). -/
def ClaimFits (r : Request) : Prop := r.count = 1 ∧ 1 ≤ r.p0.toNat ∧ r.p0.toNat ≤ 61

/-- The frame end executes command `r`: a unicast new to the sequence record, a claimed one that passes its checks too,
or a broadcast of a new sequence and an accepted code (R96 to R98, R107). -/
def ExecutesAny (s : State) (f : FrameInFlight) (e : FrameClose) (r : Request) : Prop :=
  EndsGood f e.check ∧ s.cmd.inFlight = some r
    ∧ ((r.cls = .unicast ∧ NewTo s e r) ∨ (r.cls = .firstUnaddressed ∧ NewTo s e r ∧ ClaimFits r)
      ∨ (r.cls = .broadcast ∧ s.cmd.broadcastSeq ≠ some r.seq ∧ BroadcastName r.name))

/-- The frame end refuses command `r`: it is executed and fails a check, or it is a broadcast of a new sequence and
another code, or a claimed one that fails its checks (R98, R102, R104, R107). -/
def RefusesAny (s : State) (f : FrameInFlight) (e : FrameClose) (r : Request) : Prop :=
  (ExecutesAny s f e r ∧ ∃ st data, Refuses (metByCommand s f e) r st data)
    ∨ (EndsGood f e.check ∧ s.cmd.inFlight = some r
      ∧ ((r.cls = .broadcast ∧ s.cmd.broadcastSeq ≠ some r.seq ∧ ¬BroadcastName r.name)
        ∨ (r.cls = .firstUnaddressed ∧ NewTo s e r ∧ ¬ClaimFits r)))

/-- The code field of command region header `w` names the command `name`, or no command (R4; assumption 1). -/
def CodeNames (w : Word) (name : Option CommandName) : Prop :=
  match name with
  | some n => w.extractLsb' 10 8 = commandCode n
  | none => ∀ n : CommandName, w.extractLsb' 10 8 ≠ commandCode n

/-- The command in flight, if any is taken, leaves counter `i` and the gate alone: no NODE RESET, no GATE, no SET
COUNTER of this counter, no CLEAR COUNTERS with its bit. -/
def LeavesCounter (s : State) (i : CounterIndex) : Prop :=
  ∀ r, s.cmd.inFlight = some r → r.cls ≠ .none → r.name ≠ some .nodeReset ∧ r.name ≠ some .gate
    ∧ (r.name = some .setCounter → r.p0.toNat ≠ i.val)
    ∧ (r.name = some .clearCounters → r.p0.getLsbD i.val = false)

/-- The command in flight, if any is taken, is none that acts on the counters or the snapshots by itself. -/
def CommandElsewhere (s : State) : Prop :=
  ∀ r, s.cmd.inFlight = some r → r.cls ≠ .none →
    r.name ∉ [some .nodeReset, some .setCounter, some .clearCounters, some .gate, some .takeSnapshot,
      some .cancelSnapshot, some .releaseSnapshot]

/-- The same state with no command in flight: what its frame end would be without the command. -/
def State.withoutCommand (s : State) : State := { s with cmd := { s.cmd with inFlight := none } }

/-! ### Results -/

/-- The response record holds the answer to `r`, waiting to be sent: status `st`, data `data` (R99, R102). -/
def Answered (t : State) (r : Request) (st : Status) (data : List Word) : Prop :=
  t.cmd.response = .unsent { seq := r.seq, tag := r.tag, status := st, data := data }

/-- A unicast is answered with status `st` and data `data`; a broadcast is executed in the same way and draws no
response (R98, R102). -/
def AnsweredIfUnicast (t : State) (r : Request) (st : Status) (data : List Word) : Prop :=
  r.cls = .unicast → Answered t r st data

/-- `u` and `q` agree in everything but the command's own marks: the response record, the broadcast sequence, and, on a
calm frame end alone, the counters, snapshots and notices that its COMMAND_TAKEN or COMMAND_REFUSED can move. -/
structure SameButForTheAnswer (s u q : State) : Prop where
  link : u.link = q.link
  frame : u.frame = q.frame ∧ u.tx = q.tx
  slots : u.slots = q.slots
  map : u.map = q.map
  channels : u.inputs = q.inputs ∧ u.outputs = q.outputs
  command : u.cmd.address = q.cmd.address ∧ u.cmd.params = q.cmd.params ∧ u.cmd.inFlight = q.cmd.inFlight
    ∧ u.cmd.amounts = q.cmd.amounts
  arbiter : u.arb = q.arb
  host : u.resetHeld = q.resetHeld ∧ u.pending = q.pending
  calm : Calm s → u.counters = q.counters ∧ u.snaps = q.snaps ∧ u.notices = q.notices

/-- A processed frame has begun whose first bit leaves at `start`, after `fill` bit times of idle fill: its sync word
is sent, its header is next, and it is regenerated or forwarded as `regenerated` says (R1, R25). -/
def FrameBegun (t : State) (regenerated : Bool) (start fill : Nat) : Prop :=
  t.tx.line = .frame start fill ∧ t.tx.sent = [0xF35C0A69#32]
    ∧ ∃ f, t.frame = some f ∧ f.regenerated = regenerated ∧ f.pos = 1
      ∧ f.rxCrc = 0xFFFFFFFF#32 ∧ f.txCrc = 0xFFFFFFFF#32

/-- From `s` to `t` sync is lost with miss count `n`: the lost flag is set, the unlocked-frame count cleared, SYNC_LOST
raised with E and the miss count, and the loss signalled to the Snapshot Unit (R22, R154). -/
def SyncLost (s t : State) (n : Nat) : Prop :=
  t.link.lostFlag = true ∧ t.link.unlocked = 0 ∧ t.snaps.syncLossMark = true
    ∧ t.notices = s.notices.raise s.cmd.params.noticeMask s.arb.item (.syncLost s.link.E n)

/-- `t` is `s` but for the Link Receiver, the frame in flight, the outbound link, the notices and the sync-loss mark. -/
def OnlyLinkMoved (s t : State) : Prop :=
  t = { s with
        link := t.link, frame := t.frame, tx := t.tx, notices := t.notices
        snaps := { s.snaps with syncLossMark := t.snaps.syncLossMark } }

/-- Some TAP or DRAIN entry of the bank names output channel `c` (section 5.2). -/
def Names (v : MapBank) (c : Channel) : Prop := ∃ i : SlotNumber, v[i].taps = true ∧ v[i].channel = c

/-- The event of a slot source comes about in a slot whose inbound word is `x`, groomed by entry `m` while the channel
it names stands in `c` (R40 to R48). -/
def SlotEvent (m : MapEntry) (c : InputState) (x : Word) : SlotSource → Prop
  | .emptyIn => x = 0
  | .staleIn => x.getLsbD 31 = true ∧ x.getLsbD 30 = true
  | .foreign => m.expect = true ∧ x.getLsbD 31 = true ∧ x.extractLsb' 24 6 ≠ m.source
  | .inserted => m.action = .insert ∧ c ≠ .never
  | .filled => m.action = .fill ∧ x = 0 ∧ c ≠ .never
  | .fillSkipped => m.action = .fill ∧ x ≠ 0
  | .tapped => False
  | .cleared => m.action = .clear ∨ m.action = .drain ∨ (m.action = .insert ∧ c = .never)
      ∨ (m.action = .fill ∧ x = 0 ∧ c = .never)

/-- A staged record of a frame that ends GOOD sets output channel `c` LIVE (R84). -/
def Updated (s : State) (f : FrameInFlight) (e : FrameClose) (c : Channel) : Prop :=
  EndsGood f e.check ∧ s.outputs[c] ≠ .unassigned ∧ ∃ t ∈ s.slots.staged, t.channel = c

/-- Output channel `c` is in SAFE after the taps and the expiries of the frame end (R84, R85, R89). -/
def EndsSafe (s : State) (f : FrameInFlight) (e : FrameClose) (c : Channel) : Prop :=
  ¬Updated s f e c ∧ (s.outputs[c] = .safe
    ∨ ∃ v age, s.outputs[c] = .live v age ∧ s.cmd.params.holdLimit[c] ≠ 0
      ∧ s.cmd.params.holdLimit[c] ≤ min 255 (age + 1))

/-- An event that comes about at most once in a frame has amount `a`. -/
def Once (p : Prop) (a : Nat) : Prop := (p → a = 1) ∧ (¬p → a = 0)

/-- An event that comes about at most once for each class or channel has amount `a` over the set of mask `m`. -/
def OnceEach (m : BitVec 8) (p : Fin 8 → Prop) (a : Nat) : Prop :=
  ∃ n : Fin 8 → Nat, (∀ k, Once (m.getLsbD k.val = true ∧ p k) (n k)) ∧ a = ∑ k, n k

/-- The amount that the end of frame `f` delivers to a counter with control word `c`, for each of the 28 sources
(R33, R50, R51, R89, R104, R121, R134, R137, R138). -/
def AmountIs (s : State) (f : FrameInFlight) (e : FrameClose) (c : CounterControl) (a : Nat) : Prop :=
  match c.source with
  | .slot .tapped => ∃ n : MonitorClass → Nat,
      (∀ k, EndsGood f e.check → n k = s.slots.amounts[SlotSource.tapped.row][k]
        + (s.slots.staged.filter fun t => t.cls == k).length)
      ∧ (∀ k, ¬EndsGood f e.check → n k = s.slots.amounts[SlotSource.tapped.row][k])
      ∧ a = ∑ k, if c.mask.getLsbD k.val then n k else 0
  | .slot src => a = ∑ k : MonitorClass, if c.mask.getLsbD k.val then s.slots.amounts[src.row][k] else 0
  | .channel .arrived => a = ∑ k : Channel, if c.mask.getLsbD k.val then s.inputs[k].arrived else 0
  | .channel .overwritten => a = ∑ k : Channel, if c.mask.getLsbD k.val then s.inputs[k].overwritten else 0
  | .channel .updated => OnceEach c.mask (Updated s f e) a
  | .channel .safe => OnceEach c.mask (EndsSafe s f e) a
  | .node .frameGood => Once (EndsGood f e.check) a
  | .node .frameDamaged => Once (f.regenerated = false ∧ e.check ≠ crcValue f.rxCrc) a
  | .node .frameRegenerated => Once (f.regenerated = true) a
  | .node .framePassedRegenerated => Once (EndsGood f e.check ∧ f.header.getLsbD 13 = true) a
  | .node .syncMiss => a = s.link.pendMiss
  | .node .frameDropped => a = s.link.pendDropped
  | .node .numberJump => Once (EndsGood f e.check ∧ f.header.extractLsb' 14 18 ≠ f.number) a
  | .node .commandTaken => Once (∃ r, ExecutesAny s f e r) a
  | .node .commandRefused => Once (∃ r, RefusesAny s f e r) a
  | .node .commandOverrun => Once (EndsGood f e.check ∧ ∃ r, s.cmd.inFlight = some r
      ∧ (r.cls = .unicast ∨ r.cls = .firstUnaddressed) ∧ Overruns s e r) a
  | .node .responseResent => Once (EndsGood f e.check ∧ ∃ r, s.cmd.inFlight = some r
      ∧ (r.cls = .unicast ∨ r.cls = .firstUnaddressed) ∧ RepeatOf s e r) a
  | .node .regionWritten => Once (s.arb.written = true) a
  | .node .regionDenied => Once (s.arb.denied = true) a
  | .node .responseSent => Once (s.arb.item = .response ∧ (f.regenerated = true ∨ e.check = crcValue f.rxCrc)) a
  | .node .noticeDropped => a = ((Closing.begin f e s).meet (endItems e)).s.notices.pendingDrops
  | .node .always => a = 1

/-- The condition of a counter that counts frames, for amount `a` (R141). -/
def Holds (c : CounterControl) (a : Nat) : Prop :=
  (c.sense = .atLeast ∧ c.threshold.toNat ≤ a) ∨ (c.sense = .below ∧ a < c.threshold.toNat)

/-- What an evaluation with amount `a` adds to the value of a counter with control word `c` and previous condition
`prev`: the amount under threshold 0; otherwise 1 if the condition holds, under edge only after a frame in which it
did not, and 0 if not (R140, R141). -/
def Adds (c : CounterControl) (prev : Bool) (a inc : Nat) : Prop :=
  (c.threshold = 0 → inc = a)
    ∧ (c.threshold ≠ 0 → Holds c a ∧ (c.edge = false ∨ prev = false) → inc = 1)
    ∧ (c.threshold ≠ 0 → ¬(Holds c a ∧ (c.edge = false ∨ prev = false)) → inc = 0)

/-- Counter `i` as the evaluation of this frame end leaves it in `c`: with the gate STOPPED or the counter disabled it
stands; otherwise the frame's amount reaches its value, modulo 2^40, its wrap flag and its previous condition (R140 to
R142). -/
structure Evaluated (s : State) (f : FrameInFlight) (e : FrameClose) (i : CounterIndex) (c : Counter) : Prop where
  control : c.control = s.counters.bank[i].control
  idle : s.counters.gate = false ∨ s.counters.bank[i].control.enable = false → c = s.counters.bank[i]
  counts : EventsFresh s → s.counters.gate = true → s.counters.bank[i].control.enable = true → ∀ a inc : Nat,
    AmountIs s f e s.counters.bank[i].control a →
    Adds s.counters.bank[i].control s.counters.bank[i].previous a inc →
    c.value.toNat = (s.counters.bank[i].value.toNat + inc) % 2 ^ 40
      ∧ (c.wrapFlag = true ↔ s.counters.bank[i].wrapFlag = true ∨ 2 ^ 40 ≤ s.counters.bank[i].value.toNat + inc)
      ∧ (s.counters.bank[i].control.threshold = 0 → c.previous = s.counters.bank[i].previous)
      ∧ (s.counters.bank[i].control.threshold ≠ 0 →
          (c.previous = true ↔ Holds s.counters.bank[i].control a))

/-- A counter after a capture: cleared under clear-on-capture, with its previous condition kept (R151). -/
def afterCapture (c : Counter) : Counter :=
  if c.control.clearOnCapture then { c with value := 0, wrapFlag := false } else c

/-- Counter `i` as the frame end leaves it in `c`, no command acting on it: evaluated, and cleared by a capture at most
where it has clear-on-capture. -/
def LeftByFrameEnd (s : State) (f : FrameInFlight) (e : FrameClose) (i : CounterIndex) (c : Counter) : Prop :=
  ∃ x, Evaluated s f e i x ∧ (c = x ∨ c = afterCapture x)

/-- `r` is the record a capture at this frame end appends: its capture E, its serial, its gate, and the sixteen values
and wrap flags that evaluation left, which the counters of `t` still hold but for those with clear-on-capture, which
stand at 0 with the flag clear (R151, R156, R158). -/
structure Captured (s : State) (f : FrameInFlight) (e : FrameClose) (t : State) (r : SnapshotRecord) : Prop where
  queue : t.snaps.queue = s.snaps.queue ++ [r]
  captureE : r.captureE = f.number
  serial : r.serial = s.snaps.serial ∧ t.snaps.serial = s.snaps.serial + 1
  lost : t.snaps.lost = s.snaps.lost
  gate : r.gate = s.counters.gate
  counters : ∀ i : CounterIndex, ∃ c, Evaluated s f e i c ∧ r.values[i] = c.value
    ∧ r.wrapMask.getLsbD i.val = c.wrapFlag ∧ t.counters.bank[i] = afterCapture c

/-! ### What the node shows -/

/-- `v` is the status word of R8 as state `s` stands. -/
def StatusWordIs (s : State) (v : Sample) : Prop :=
  v.extractLsb' 22 2 = (match s.link.state with | .hunt => 0 | .verify => 1 | .locked => 2 | .flywheel => 3)
    ∧ v.getLsbD 21 = s.map.commit.isSome ∧ v.getLsbD 20 = decide (s.map.active = .b)
    ∧ v.getLsbD 19 = s.map.copy.isSome
    ∧ v.extractLsb' 17 2
      = (match s.cmd.response with | .empty => 0 | .pending _ _ => 1 | .unsent _ => 2 | .sent _ => 3)
    ∧ v.extractLsb' 14 3 = BitVec.ofNat 3 s.notices.records.length
    ∧ v.extractLsb' 11 3 = BitVec.ofNat 3 s.snaps.queue.length ∧ v.getLsbD 10 = s.counters.gate
    ∧ v.extractLsb' 6 4 = BitVec.ofNat 4 (∑ c : Channel, if s.outputs[c] = .safe then 1 else 0)
    ∧ v.extractLsb' 0 6 = s.cmd.address

/-- The statuses in the order of their codes 00h to 0Bh (R103). -/
def statuses : List Status :=
  [.ok, .badCommand, .badParameter, .busy, .commitLocked, .notArmed, .alreadyArmed, .mapConflict, .noAddress,
    .queueEmpty, .aborted, .staleAck]

/-- The notice kinds in the order of their codes 80h to 87h (R123). -/
def noticeKinds : List NoticeKind :=
  [.restarted, .syncLost, .syncRegained, .numberJump, .commitDone, .outputExpired, .snapshotReady, .snapshotLost]

/-- `out` is a response region of five words with these header fields and data words, zero beyond them (R5). -/
def RegionLaid (out : List Word) (address : Address) (seq : SequenceNumber) (code : Nat) (tag : Tag)
    (data : List Word) : Prop :=
  out.length = 5 ∧ (out.getD 0 0).extractLsb' 26 6 = address ∧ (out.getD 0 0).extractLsb' 18 8 = seq
    ∧ (out.getD 0 0).extractLsb' 10 8 = BitVec.ofNat 8 code
    ∧ (out.getD 0 0).extractLsb' 7 3 = BitVec.ofNat 3 data.length ∧ (out.getD 0 0).extractLsb' 0 7 = tag
    ∧ ∀ j, j < 4 → out.getD (j + 1) 0 = data.getD j 0

/-- The data words of a notice as they are written, the dropped count `n` in bits 31 to 24 of the last (R123). -/
def noticeData (x : Notice) (n : Nat) : List Word :=
  let d := BitVec.ofNat 8 n
  match x with
  | .restarted cause =>
    [d ++ 0#22 ++ (match cause with | .powerOrPin => 0#2 | .unicastReset => 1#2 | .broadcastReset => 2#2)]
  | .syncLost e misses => [0#14 ++ e, d ++ 0#20 ++ BitVec.ofNat 4 misses]
  | .syncRegained e count => [0#14 ++ e, d ++ BitVec.ofNat 24 count]
  | .numberJump old received => [0#14 ++ old, d ++ 0#6 ++ received]
  | .commitDone e lateness bank =>
    [0#14 ++ e, 0#14 ++ lateness, d ++ 0#23 ++ (match bank with | .a => 0#1 | .b => 1#1)]
  | .outputExpired mask => [d ++ 0#16 ++ mask]
  | .snapshotReady e depth serial => [0#14 ++ e, d ++ 0#13 ++ BitVec.ofNat 3 depth ++ serial]
  | .snapshotLost count => [d ++ 0#16 ++ BitVec.ofNat 8 count]

/-! ### Commands -/

/-- The row of the table that is command `n` with the parameters of `r`, taken at frame end `e`: GATE and TAKE SNAPSHOT
have a row for each form. -/
def commandRow (n : CommandName) (r : Request) (e : FrameClose) : Instr :=
  match n with
  | .identify => .identify e
  | .assignAddress => .assignAddress e
  | .nodeReset => .nodeReset e
  | .readStatus => .readStatus e
  | .setParameter => .setParameter e
  | .getParameter => .getParameter e
  | .writeEntries => .writeEntries e
  | .readEntries => .readEntries e
  | .copyActive => .copyActive e
  | .commit => .commit e
  | .cancelCommit => .cancelCommit e
  | .acknowledgeNotice => .acknowledgeNotice e
  | .setCounter => .setCounter e
  | .getCounterControl => .getCounterControl e
  | .readCounters => .readCounters e
  | .clearCounters => .clearCounters e
  | .gate => if r.p0 = 1 then .gateStart e else .gateStop e
  | .takeSnapshot => if r.count = 0 then .takeSnapshotNow e else .takeSnapshotScheduled e
  | .cancelSnapshot => .cancelSnapshot e
  | .readSnapshot => .readSnapshot e
  | .releaseSnapshot => .releaseSnapshot e

/-- `id` names a parameter of R112 and `v` lies in its range. -/
def ParameterFits (id v : Word) : Prop :=
  (id = 0 ∧ v.toNat ≤ 15) ∨ (id = 1 ∧ 1 ≤ v.toNat ∧ v.toNat ≤ 15) ∨ (id = 2 ∧ 16 ≤ v.toNat ∧ v.toNat ≤ 4095)
    ∨ (id = 3 ∧ v.toNat ≤ 255) ∨ (id = 4 ∧ v.toNat ≤ 1)
    ∨ (8 ≤ id.toNat ∧ id.toNat ≤ 15 ∧ v.toNat ≤ 255) ∨ (16 ≤ id.toNat ∧ id.toNat ≤ 23)

/-- Half `j` of the entry words `p1`, `p2`, `p3` of a WRITE ENTRIES: entries 0 and 1 in word 1, 2 and 3 in word 2, 4
and 5 in word 3, the even one in bits 31 to 16 (R7, R58). -/
def writtenHalf (r : Request) (j : Nat) : BitVec 16 :=
  let w := if j < 2 then r.p1 else if j < 4 then r.p2 else r.p3
  if j % 2 = 0 then w.extractLsb' 16 16 else w.extractLsb' 0 16

/-- The parameter count R58 requires for count field `k` holds for `count`: 1 plus half of `k` rounded up for 1 to 6,
and 2, 3 or 4 for a count field outside them. -/
def WriteCountFits (count k : Nat) : Prop :=
  (1 ≤ k ∧ k ≤ 6 ∧ count = 1 + (k + 1) / 2) ∨ ((k = 0 ∨ 6 < k) ∧ 2 ≤ count ∧ count ≤ 4)

/-- Slot `i` of bank `v` is in conflict with slot `j` above it: both TAP or DRAIN of one output channel (R68). -/
def Conflict (v : MapBank) (i j : SlotNumber) : Prop :=
  i < j ∧ v[i].taps = true ∧ v[j].taps = true ∧ v[i].channel = v[j].channel

end Sys2Proof.Machine
end

