-- ==== Sys2Proof/Certificates/Slice0/Obligations.lean ====
section
/-! DEFINITION. The statements for the provers, from the manual's numbered rules. -/

open Sys2Proof Sys2Proof.Machine

/-! ### The step -/

/-- The step takes the happening at the front of the queue and is exec of it with the queue's rest; on an empty queue
the block idles (assumption 5). -/
def Obligations.StepTakesTheFrontHappening : Prop :=
  (∀ (c : Instr) (rest : List Instr) (s : State),
      step { s with pending := c :: rest } = exec c { s with pending := rest })
    ∧ ∀ s : State, s.pending = [] → step s = .next s

/-- The model's choice, not a rule of the manual: every happening goes on to a next state, since the manual names no
condition that stops the node (assumption 19), and leaves the queue of waiting happenings alone (assumption 5). While
the reset pin is held low, every happening but power-on and the release leaves the node as it stands, as R15 holds
every block at its reset values (R15, R76, R91, R122, R135, R153; assumption 3 for the release of a high pin). -/
def Obligations.EveryHappeningGoesOn : Prop :=
  ∀ (i : Instr) (s : State),
    (∃ t, exec i s = .next t ∧ t.pending = s.pending)
      ∧ (s.resetHeld = true → (∀ t, i ≠ .powerOn t) → (∀ t, i ≠ .resetPinRelease t) → exec i s = .next s)

/-! ### Resets and start-up -/

/-- POWER_ON, RESET_PIN_LOW and RESET_PIN_RELEASE set every block to its reset values. While the pin is low idle fill
is sent and no notice is held, a power-on that completes then included (assumption 14); when power-on completes and
when the pin is released the start-up idle fill begins and RESTARTED with cause 0 is the queue's one record (R14, R15,
R122). Two clauses are the model's choice: the record of words sent is cleared when the pin cuts a frame off
(assumption 18), and the release of a pin that is not low changes nothing (assumption 3). -/
def Obligations.ResetsSetEveryBlock : Prop :=
  (∀ (i : Instr) (t : BitTime) (s : State),
      (i = .resetPinLow t ∧ s.resetHeld = false) ∨ (i = .powerOn t ∧ s.resetHeld = true) →
      ∃ u, exec i s = .next u
        ∧ AtReset u ∧ u.resetHeld = true ∧ u.frame = none ∧ u.tx = { line := .held t, sent := [] }
        ∧ u.notices = { records := [], seqCounter := 0, dropped := 0, pendingDrops := 0 }
        ∧ u.linkOk = false ∧ (∀ c : Channel, u.sout c = 0) ∧ u.pending = s.pending)
    ∧ (∀ (i : Instr) (t : BitTime) (s : State),
        (i = .powerOn t ∧ s.resetHeld = false) ∨ (i = .resetPinRelease t ∧ s.resetHeld = true) →
        ∃ u, exec i s = .next u
          ∧ AtReset u ∧ u.resetHeld = false ∧ u.frame = none ∧ u.tx = { line := .startup t, sent := [] }
          ∧ u.notices = { records := [{ notice := .restarted .powerOrPin, seq := 0, repeats := 0
                                        state := .queued false }]
                          seqCounter := 1, dropped := 0, pendingDrops := 0 }
          ∧ u.linkOk = false ∧ (∀ c : Channel, u.sout c = 0) ∧ u.pending = s.pending)
    ∧ ∀ (t : BitTime) (s : State), s.resetHeld = false → exec (.resetPinRelease t) s = .next s

/-- The first regenerated frame begins 2,464 bit times after the start-up idle fill did, and in HUNT and VERIFY each
further one as the last bit of the frame before it leaves, with no fill between (R15, R25); in LOCKED and FLYWHEEL no
frame begins in this way. Nothing but the frame and the line changes. -/
def Obligations.RegeneratedFramesKeepTheLineBusy : Prop :=
  ∀ s : State, s.resetHeld = false → s.frame = none →
    (∀ since, s.tx.line = .startup since → ∃ u, exec .startupIdleFillEnds s = .next u
        ∧ FrameBegun u true (since + 2464) 2464 ∧ u = { s with frame := u.frame, tx := u.tx })
      ∧ (∀ start fill, s.tx.line = .frame start fill → s.link.state = .hunt ∨ s.link.state = .verify →
          ∃ u, exec .regeneratedFrameStart s = .next u
            ∧ FrameBegun u true (start + 2464) 0 ∧ u = { s with frame := u.frame, tx := u.tx })
      ∧ (s.link.state = .locked ∨ s.link.state = .flywheel → exec .regeneratedFrameStart s = .next s)

/-! ### The inbound link -/

/-- A sync word found at `p` in HUNT, or in FLYWHEEL away from the position where the next one is due, becomes the
candidate: VERIFY, one frame dropped, and nothing else of the Link Receiver's counts moves (R16, R17, R20). -/
def Obligations.FoundSyncBecomesCandidate : Prop :=
  ∀ (p : BitTime) (s : State) (i : Instr), s.resetHeld = false →
    (i = .syncFoundInHunt p ∧ s.link.state = .hunt)
      ∨ (i = .syncFoundElsewhereInFlywheel p ∧ s.link.state = .flywheel ∧ s.link.due ≠ some p) →
    ∃ u, exec i s = .next u
      ∧ u.link.state = .verify ∧ u.link.candidatePos = some p ∧ u.link.expectedPos = none
      ∧ u.link.pendDropped = s.link.pendDropped + 1 ∧ u.link.pendMiss = s.link.pendMiss
      ∧ u.link.missCount = s.link.missCount ∧ u.link.lostFlag = s.link.lostFlag
      ∧ u.link.unlocked = s.link.unlocked ∧ u.link.E = s.link.E
      ∧ u = { s with link := u.link }

/-- In VERIFY a candidate whose check word matches stays under test with nothing else changed; one whose check word
does not match takes the node back to HUNT, and a second sync word missed at P + 2,464 does the same. On either
return sync is lost if the lost flag was clear, and otherwise nothing is raised (R17, R22). -/
def Obligations.FailedVerificationReturnsToHunt : Prop :=
  ∀ s : State, s.resetHeld = false → s.link.state = .verify →
    (∀ (content : List Word) (check : Word), s.link.candidateChecked = false → check = crcOf content →
        exec (.candidateCheckWord content check) s = .next { s with link := { s.link with candidateChecked := true } })
      ∧ ∀ i : Instr,
        (∃ content check, i = .candidateCheckWord content check ∧ s.link.candidateChecked = false
            ∧ check ≠ crcOf content)
          ∨ (∃ window, i = .secondSyncJudged window ∧ s.link.candidateChecked = true
            ∧ s.link.candidatePos ≠ none ∧ window ≠ 0xF35C0A69#32) →
        ∃ u, exec i s = .next u
          ∧ u.link.state = .hunt ∧ u.link.candidatePos = none ∧ u.link.expectedPos = none
          ∧ u.link.missCount = s.link.missCount ∧ u.link.E = s.link.E
          ∧ (s.link.lostFlag = false → SyncLost s u s.link.missCount)
          ∧ (s.link.lostFlag = true → u = { s with link := u.link } ∧ u.link.lostFlag = true
              ∧ u.link.unlocked = s.link.unlocked)
          ∧ OnlyLinkMoved s u

/-- The sync word found at P + 2,464 completes the verification: LOCKED, LINK OK high, miss count 0, and SYNC_REGAINED
if the lost flag was set, which clears it (R17, R24, R28). The relock rule then forwards the inbound frame, its first
bit at P + 2,528, if the line is free by then and no frame is in progress; otherwise it drops the frame and the node
waits (R27). -/
def Obligations.SecondSyncLocksAndRelocks : Prop :=
  ∀ (s : State) (p : BitTime), s.resetHeld = false → s.link.state = .verify → s.link.candidateChecked = true →
    s.link.candidatePos = some p → ∃ u, exec (.secondSyncJudged 0xF35C0A69#32) s = .next u
      ∧ u.link.state = .locked ∧ u.linkOk = true ∧ u.link.missCount = 0 ∧ u.link.expectedPos = some (p + 2464)
      ∧ u.link.candidatePos = none ∧ u.link.lostFlag = false ∧ u.link.unlocked = s.link.unlocked
      ∧ u.link.E = s.link.E
      ∧ u.notices = (if s.link.lostFlag then
          s.notices.raise s.cmd.params.noticeMask s.arb.item (.syncRegained s.link.E s.link.unlocked)
        else s.notices)
      ∧ (s.frame = none ∧ s.tx.line.freeFrom ≤ p + 2528 →
          FrameBegun u false (p + 2528) (p + 2528 - s.tx.line.freeFrom)
            ∧ u.link.relockWait = false ∧ u.link.pendDropped = s.link.pendDropped)
      ∧ (¬(s.frame = none ∧ s.tx.line.freeFrom ≤ p + 2528) →
          u.frame = s.frame ∧ u.link.relockWait = true ∧ u.link.pendDropped = s.link.pendDropped + 1
            ∧ u.tx.sent = s.tx.sent ∧ u.tx.line.freeFrom = s.tx.line.freeFrom)
      ∧ OnlyLinkMoved s u

/-- A sync word found where it is due, in LOCKED or FLYWHEEL: LOCKED, the miss count cleared, the expected position one
frame on, and the inbound frame forwarded 64 bit times behind, idle fill filling the line up to it (R10, R18, R20).
While the node waits under the relock rule the frame is forwarded only if the line is free by then, and dropped
otherwise (R27). -/
def Obligations.FoundSyncIsForwarded : Prop :=
  ∀ (s : State) (p : BitTime) (i : Instr), s.resetHeld = false → s.frame = none → s.link.due = some p →
    (i = .syncFoundInLocked ∧ s.link.state = .locked) ∨ (i = .syncFoundInFlywheel ∧ s.link.state = .flywheel) →
    ∃ u, exec i s = .next u
      ∧ u.link.state = .locked ∧ u.linkOk = true ∧ u.link.missCount = 0 ∧ u.link.expectedPos = some (p + 2464)
      ∧ u.link.E = s.link.E ∧ u.link.lostFlag = s.link.lostFlag ∧ u.link.unlocked = s.link.unlocked
      ∧ u.notices = s.notices
      ∧ ((i = .syncFoundInFlywheel ∨ s.link.relockWait = false ∨ s.tx.line.freeFrom ≤ p + 64) →
          FrameBegun u false (p + 64) (p + 64 - s.tx.line.freeFrom) ∧ u.link.pendDropped = s.link.pendDropped)
      ∧ (i = .syncFoundInLocked → s.link.relockWait = true → ¬s.tx.line.freeFrom ≤ p + 64 →
          u.frame = none ∧ u.link.relockWait = true ∧ u.link.pendDropped = s.link.pendDropped + 1)
      ∧ OnlyLinkMoved s u

/-- A sync word missed where it is due, in LOCKED or FLYWHEEL: a regenerated frame takes the place of the missing one,
64 bit times behind, one SYNC_MISS is pending, and the miss count is 1 from LOCKED and one more from FLYWHEEL. Below
FLYWHEEL_LIMIT the node is in FLYWHEEL with the expected position one frame on; at or above it the node is in HUNT
and sync is lost (R19 to R22, R25). -/
def Obligations.MissedSyncIsRegenerated : Prop :=
  ∀ (s : State) (p : BitTime) (i : Instr) (n : Nat), s.resetHeld = false → s.frame = none → s.link.due = some p →
    (i = .syncMissInLocked ∧ s.link.state = .locked ∧ n = 1)
      ∨ (i = .syncMissInFlywheel ∧ s.link.state = .flywheel ∧ n = s.link.missCount + 1) →
    ∃ u, exec i s = .next u
      ∧ FrameBegun u true (p + 64) (p + 64 - s.tx.line.freeFrom)
      ∧ u.link.missCount = n ∧ u.link.pendMiss = s.link.pendMiss + 1 ∧ u.link.pendDropped = s.link.pendDropped
      ∧ u.link.E = s.link.E ∧ u.linkOk = false
      ∧ (n < s.cmd.params.flywheelLimit →
          u.link.state = .flywheel ∧ u.link.expectedPos = some (p + 2464) ∧ u.link.lostFlag = s.link.lostFlag
            ∧ u.link.unlocked = s.link.unlocked ∧ u.notices = s.notices
            ∧ u.snaps.syncLossMark = s.snaps.syncLossMark)
      ∧ (s.cmd.params.flywheelLimit ≤ n →
          u.link.state = .hunt ∧ u.link.expectedPos = none ∧ SyncLost s u n)
      ∧ OnlyLinkMoved s u

/-! ### The frame in flight -/

/-- At a header time at which no commit fires, the frame takes E as its number and the active bank as its bank, and its
header word is sent: exactly as it arrived if the frame is forwarded; if it is regenerated, with frame number E,
regenerated 1, the node's address as originator, reservation 0 and command present 0. Both check remainders take that
word (R2, R11, R26, R31, R37). At the first header time after a NODE RESET both banks take the all-zero entries, with
bank A active, so that this frame is groomed by them; at every other the map stands (R35, R55). Nothing else changes. -/
def Obligations.HeaderTimeNumbersTheFrame : Prop :=
  ∀ (s : State) (f : FrameInFlight) (w : Word), s.resetHeld = false → s.frame = some f → f.pos = 1 →
    (∀ F, s.map.commit = some F → 131072 ≤ (s.link.E - F).toNat) →
    ∃ u h, exec (.headerTime w) s = .next u ∧ u.tx.sent = s.tx.sent ++ [h]
      ∧ u.frame = some { f.pass [h] [h] with number := s.link.E, header := h, bank := u.map.active }
      ∧ (f.regenerated = false → h = w)
      ∧ (f.regenerated = true → headerNumber h = s.link.E ∧ headerRegenerated h = true
          ∧ headerOriginator h = s.cmd.address ∧ headerReservation h = 0 ∧ headerCommandPresent h = false)
      ∧ (s.map.resetDue = false → u.map = s.map)
      ∧ (s.map.resetDue = true → BanksReset u.map ∧ u.map.resetDue = false ∧ u.map.commit = s.map.commit
          ∧ u.map.copy = s.map.copy)
      ∧ u = { s with frame := u.frame, tx := { s.tx with sent := u.tx.sent }, map := u.map }

/-- At the header time of a frame whose number is at or past the armed F the commit fires, in HEADER_TIME and in
COMMIT_FIRE alike: the designations exchange with every entry of both banks as it stood, the commit is IDLE, each
output channel becomes SAFE, UNASSIGNED or stays by the banks that name it, COMMIT_DONE is raised with E, the lateness
(E - F) mod 2^18 and the new bank, and the new active bank is the frame's. The header word passes as at any header
time. Before F a COMMIT_FIRE does not come about (R70, R71, R74, R83; assumption 2). No NODE RESET waits for its
header time while a commit is ARMED (R55). -/
def Obligations.CommitFiresAtTheHeader : Prop :=
  ∀ (s : State) (f : FrameInFlight) (w : Word) (F : FrameNumber),
    s.resetHeld = false → s.frame = some f → f.pos = 1 → s.map.commit = some F →
    ((s.link.E - F).toNat < 131072 → s.map.resetDue = false →
      ∀ i : Instr, i = .headerTime w ∨ i = .commitFire w → ∃ u h, exec i s = .next u
        ∧ u.tx.sent = s.tx.sent ++ [h]
        ∧ u.frame = some { f.pass [h] [h] with number := s.link.E, header := h, bank := s.map.active.other }
        ∧ (f.regenerated = false → h = w) ∧ (f.regenerated = true → headerNumber h = s.link.E)
        ∧ u.map = { s.map with active := s.map.active.other, commit := none }
        ∧ (∀ c : Channel,
            (Names s.map.shadow c → Names (s.map.bank s.map.active) c → u.outputs[c] = s.outputs[c])
            ∧ (Names s.map.shadow c → ¬Names (s.map.bank s.map.active) c → u.outputs[c] = .safe)
            ∧ (¬Names s.map.shadow c → u.outputs[c] = .unassigned))
        ∧ u.notices = s.notices.raise s.cmd.params.noticeMask s.arb.item
            (.commitDone s.link.E (s.link.E - F) s.map.active.other)
        ∧ u = { s with frame := u.frame, tx := { s.tx with sent := u.tx.sent }, map := u.map
                       outputs := u.outputs, notices := u.notices })
      ∧ (131072 ≤ (s.link.E - F).toNat → exec (.commitFire w) s = .next s)

/-- One slot word in flight, groomed by the entry of the frame's bank: what leaves in its place, for every action and
every state of the input channel. PASS and TAP send the slot as it arrived; CLEAR and DRAIN send it empty; INSERT, and
FILL of an empty slot, send the channel's latest sample with the node's address, stale 0 when FRESH and 1 when USED,
and an empty slot when NEVER; FILL of an occupied slot sends it as it arrived; STATUS sends the status word, every
field of R8 as it stands (R8, R39, R41 to R44, R46 to R48). A regenerated frame's slots arrive empty (R26). -/
def Obligations.SlotLeavesAsItsEntrySays : Prop :=
  ∀ (s : State) (f : FrameInFlight) (i : SlotNumber) (w x : Word) (m : MapEntry),
    s.resetHeld = false → s.frame = some f → f.pos = i.val + 2 → x = (if f.regenerated then 0 else w) →
    m = (s.map.bank f.bank)[i] →
    ∃ u out, exec (.slotInFlight w) s = .next u ∧ u.tx.sent = s.tx.sent ++ [out]
      ∧ u.frame = some (f.pass [x] [out])
      ∧ (m.action = .pass ∨ m.action = .tap → out = x)
      ∧ (m.action = .clear ∨ m.action = .drain → out = 0)
      ∧ (m.action = .insert ∨ (m.action = .fill ∧ x = 0) →
          (∀ v mark, s.inputs[m.channel].state = .fresh v mark → out = 1#1 ++ 0#1 ++ s.cmd.address ++ v)
          ∧ (∀ v, s.inputs[m.channel].state = .used v → out = 1#1 ++ 1#1 ++ s.cmd.address ++ v)
          ∧ (s.inputs[m.channel].state = .never → out = 0))
      ∧ (m.action = .fill → x ≠ 0 → out = x)
      ∧ (m.action = .status → ∃ v : Sample, StatusWordIs s v ∧ out = 1#1 ++ 0#1 ++ s.cmd.address ++ v)
      ∧ u = { s with frame := u.frame, tx := { s.tx with sent := u.tx.sent }, slots := u.slots
                     map := u.map, inputs := u.inputs }

/-- What one slot in flight does to the channels and the banks: a TAP or DRAIN of a fresh sample joins the staged taps
with its channel, value and class, whatever the sample's source, and nothing else does (R46, R47); a read by INSERT,
or by FILL of an empty slot, marks a FRESH sample delivered and changes nothing else (R78); a running copy takes the
slot's entry into the other bank (R64); the grooming bank, the designation and the commit state stand. -/
def Obligations.SlotReadsStagesAndCopies : Prop :=
  ∀ (s : State) (f : FrameInFlight) (i : SlotNumber) (w x : Word) (m : MapEntry),
    s.resetHeld = false → s.frame = some f → f.pos = i.val + 2 → x = (if f.regenerated then 0 else w) →
    m = (s.map.bank f.bank)[i] →
    ∃ u, exec (.slotInFlight w) s = .next u
      ∧ ((m.action = .tap ∨ m.action = .drain) ∧ x.getLsbD 31 = true ∧ x.getLsbD 30 = false →
          u.slots.staged = s.slots.staged
            ++ [{ channel := m.channel, value := x.extractLsb' 0 24, cls := m.cls }])
      ∧ (¬((m.action = .tap ∨ m.action = .drain) ∧ x.getLsbD 31 = true ∧ x.getLsbD 30 = false) →
          u.slots.staged = s.slots.staged)
      ∧ (∀ v mark, s.inputs[m.channel].state = .fresh v mark →
          m.action = .insert ∨ (m.action = .fill ∧ x = 0) → u.inputs[m.channel].state = .fresh v true)
      ∧ (∀ c : Channel, ((∃ v mark, s.inputs[c].state = .fresh v mark) → c = m.channel →
          ¬(m.action = .insert ∨ (m.action = .fill ∧ x = 0))) → u.inputs[c] = s.inputs[c])
      ∧ (∀ c : Channel, u.inputs[c].arrived = s.inputs[c].arrived
          ∧ u.inputs[c].overwritten = s.inputs[c].overwritten)
      ∧ (s.map.copy = none → u.map = s.map)
      ∧ (∀ src, s.map.copy = some src →
          u.map.bank src = s.map.bank src ∧ (u.map.bank src.other)[i] = (s.map.bank src)[i]
            ∧ (∀ j : SlotNumber, j ≠ i → (u.map.bank src.other)[j] = (s.map.bank src.other)[j])
            ∧ u.map.active = s.map.active ∧ u.map.commit = s.map.commit ∧ u.map.copy = s.map.copy)

/-- Each slot event of R40 to R48 that comes about in a slot adds 1 to its source's amount under the class of the entry
that groomed it, and every other amount stands (R40, R49). -/
def Obligations.SlotEventsAreCountedByClass : Prop :=
  ∀ (s : State) (f : FrameInFlight) (i : SlotNumber) (w x : Word) (m : MapEntry),
    s.resetHeld = false → s.frame = some f → f.pos = i.val + 2 → x = (if f.regenerated then 0 else w) →
    m = (s.map.bank f.bank)[i] →
    ∃ u, exec (.slotInFlight w) s = .next u ∧ ∀ (src : SlotSource) (cls : MonitorClass),
      (cls = m.cls ∧ SlotEvent m s.inputs[m.channel].state x src →
          u.slots.amounts[src.row][cls] = s.slots.amounts[src.row][cls] + 1)
        ∧ (¬(cls = m.cls ∧ SlotEvent m s.inputs[m.channel].state x src) →
          u.slots.amounts[src.row][cls] = s.slots.amounts[src.row][cls])

/-- The command region of a forwarded frame with command present 1 is held as the command in flight with its target
class and with the command its code names, none where it is no command's code (which code is which command's is free,
and with another name than its code's no word arrives: assumptions 1, 3); a first-unaddressed ASSIGN ADDRESS at a node of address 0 is claimed, its target rewritten to 62 and every
other bit sent as received; the region is otherwise sent as it arrived. Without command present, and in a
regenerated frame, the region is sent as it arrived (all zero if regenerated) and not examined. The check remainders
take the words as they arrived and as they are sent (R4, R11, R26, R92 to R94). -/
def Obligations.CommandRegionIsReadInFlight : Prop :=
  ∀ (s : State) (f : FrameInFlight) (w p0 p1 p2 p3 : Word) (name : Option CommandName),
    s.resetHeld = false → s.frame = some f → f.pos = 66 →
    (f.regenerated = false → f.header.getLsbD 0 = true → CodeNames w name →
      ∃ u h r, exec (.commandRegionHeader w name p0 p1 p2 p3) s = .next u
        ∧ u.tx.sent = s.tx.sent ++ [h, p0, p1, p2, p3] ∧ u.frame = some (f.pass [w, p0, p1, p2, p3] [h, p0, p1, p2, p3])
        ∧ u.cmd = { s.cmd with inFlight := some r }
        ∧ r.seq = w.extractLsb' 18 8 ∧ r.name = name ∧ r.count = (w.extractLsb' 7 3).toNat
        ∧ r.tag = w.extractLsb' 0 7 ∧ r.p0 = p0 ∧ r.p1 = p1 ∧ r.p2 = p2 ∧ r.p3 = p3
        ∧ (w.extractLsb' 26 6 = 63 → r.cls = .broadcast)
        ∧ (w.extractLsb' 26 6 = s.cmd.address → 1 ≤ s.cmd.address.toNat → s.cmd.address.toNat ≤ 61 →
            r.cls = .unicast)
        ∧ (w.extractLsb' 26 6 = 0 → s.cmd.address = 0 → name = some .assignAddress →
            r.cls = .firstUnaddressed ∧ h.extractLsb' 26 6 = 62 ∧ h.extractLsb' 0 26 = w.extractLsb' 0 26)
        ∧ (w.extractLsb' 26 6 = 0 → s.cmd.address ≠ 0 ∨ name ≠ some .assignAddress → r.cls = .none)
        ∧ (w.extractLsb' 26 6 ≠ 0 → w.extractLsb' 26 6 ≠ 63 →
            w.extractLsb' 26 6 ≠ s.cmd.address ∨ 61 < s.cmd.address.toNat → r.cls = .none)
        ∧ (r.cls ≠ .firstUnaddressed → h = w)
        ∧ u = { s with frame := u.frame, tx := { s.tx with sent := u.tx.sent }, cmd := u.cmd })
      ∧ (f.regenerated = false → f.header.getLsbD 0 = true → ¬CodeNames w name →
        exec (.commandRegionHeader w name p0 p1 p2 p3) s = .next s)
      ∧ (f.regenerated = true ∨ f.header.getLsbD 0 = false →
        ∃ u rx, exec (.commandRegionHeader w name p0 p1 p2 p3) s = .next u
          ∧ rx = (if f.regenerated then [0, 0, 0, 0, 0] else [w, p0, p1, p2, p3])
          ∧ u.tx.sent = s.tx.sent ++ rx ∧ u.frame = some (f.pass rx rx)
          ∧ u = { s with frame := u.frame, tx := { s.tx with sent := u.tx.sent } })

/-- The response region: a node that has an UNSENT response or a QUEUED notice writes all five words of a region that
arrived free, when its address is 1 to 61, the region is open or reserved for it, and its courtesy gap has run out or
the region is reserved for it. It writes the response if there is one, else the first QUEUED notice, in the layout of
R5: its address, the item's sequence, code, data count and tag, the data words and zero beyond them, the dropped count
in bits 31 to 24 of a notice's last data word (R5, R103, R123). It counts REGION_WRITTEN; where a condition fails it
counts REGION_DENIED and forwards the region, and with nothing to send it forwards the region and counts neither (R116
to R118). -/
def Obligations.ResponseRegionIsShared : Prop :=
  ∀ (s : State) (f : FrameInFlight) (w d0 d1 d2 d3 : Word) (rx : List Word),
    s.resetHeld = false → s.frame = some f → f.pos = 71 →
    rx = (if f.regenerated then [0, 0, 0, 0, 0] else [w, d0, d1, d2, d3]) →
    ∃ u out, exec (.responseRegionHeader w d0 d1 d2 d3) s = .next u ∧ u.tx.sent = s.tx.sent ++ out
      ∧ u.frame = some (f.pass rx out)
      ∧ (∀ free : Bool,
          free = (decide (1 ≤ s.cmd.address.toNat) && decide (s.cmd.address.toNat ≤ 61)
            && (f.regenerated || w.extractLsb' 26 6 == 0)
            && (f.header.extractLsb' 1 6 == 0 || f.header.extractLsb' 1 6 == s.cmd.address)
            && (s.arb.gap == 0 || f.header.extractLsb' 1 6 == s.cmd.address)) →
          (∀ a, s.cmd.response = .unsent a →
              (free = true → u.arb.item = .response
                ∧ RegionLaid out s.cmd.address a.seq (statuses.idxOf a.status) a.tag a.data)
              ∧ (free = false → out = rx ∧ u.arb.item = .none)
              ∧ u.arb.written = free ∧ u.arb.denied = !free)
          ∧ (∀ r, (∀ a, s.cmd.response ≠ .unsent a) → s.notices.records.find? NoticeRecord.isQueued = some r →
              (free = true → u.arb.item = .notice r.kind
                ∧ RegionLaid out s.cmd.address r.seq (128 + noticeKinds.idxOf r.kind) (BitVec.ofNat 7 r.repeats)
                  (noticeData r.notice s.notices.dropped))
              ∧ (free = false → out = rx ∧ u.arb.item = .none)
              ∧ u.arb.written = free ∧ u.arb.denied = !free)
          ∧ ((∀ a, s.cmd.response ≠ .unsent a) → (∀ r ∈ s.notices.records, r.isQueued = false) →
              out = rx ∧ u.arb.item = .none ∧ u.arb.written = false ∧ u.arb.denied = false))
      ∧ u = { s with frame := u.frame, tx := { s.tx with sent := u.tx.sent }
                     arb := { s.arb with item := u.arb.item, written := u.arb.written, denied := u.arb.denied } }

/-! ### The input lanes -/

/-- R77: a whole sample that arrives on lane `c` is the channel's latest sample, FRESH and unmarked, whatever the state
before; SAMPLE_ARRIVED rises by 1, and SAMPLE_OVERWRITTEN by 1 if the channel was FRESH, each saturating at 255. It is
taken in every link state, whatever the map and the address; nothing else changes. -/
def Obligations.ArrivalReplacesTheSample : Prop :=
  ∀ (s : State) (c : Channel) (v : Sample), s.resetHeld = false →
    ∃ u, exec (.sampleArrival c v) s = .next u
      ∧ u.inputs[c].state = .fresh v false
      ∧ u.inputs[c].arrived = min 255 (s.inputs[c].arrived + 1)
      ∧ ((∃ v' mark, s.inputs[c].state = .fresh v' mark) →
          u.inputs[c].overwritten = min 255 (s.inputs[c].overwritten + 1))
      ∧ ((∀ v' mark, s.inputs[c].state ≠ .fresh v' mark) → u.inputs[c].overwritten = s.inputs[c].overwritten)
      ∧ (∀ d : Channel, d ≠ c → u.inputs[d] = s.inputs[d])
      ∧ u = { s with inputs := u.inputs }

/-! ### The frame end -/

/-- At the end of every processed frame the Link Receiver updates E: after a GOOD frame whose received number R differs
from its own number E becomes R + 1, and after any other it becomes the frame's number plus 1, modulo 2^18. The
unlocked-frame count rises by 1 to at most 16,777,215 while the lost flag is set, the pending link amounts are
delivered, and the rest of the Link Receiver stands, whatever command the frame carries. The frame is over: no frame
is in flight, nothing is staged, no command is held (R14, R23, R30, R32, R33, R51, R96). NUMBER_JUMP is raised where E
was resynchronised, with the frame's number and R: here on a frame end to whose notices nothing else happens but the
resend step (R32), in the standard order of the works, which puts the resend step before the raising (assumption 4, the
model's choice). -/
def Obligations.FrameEndNumbersTheNext : Prop :=
  ∀ (s : State) (f : FrameInFlight) (e : FrameClose), AtEnd s f → ∃ u, exec (.frameEnd e) s = .next u
    ∧ (EndsGood f e.check → headerNumber f.header ≠ f.number → u.link.E = headerNumber f.header + 1)
    ∧ (¬(EndsGood f e.check ∧ headerNumber f.header ≠ f.number) → u.link.E = f.number + 1)
    ∧ (s.link.lostFlag = true → u.link.unlocked = min 16777215 (s.link.unlocked + 1))
    ∧ (s.link.lostFlag = false → u.link.unlocked = s.link.unlocked)
    ∧ u.link = { s.link with E := u.link.E, unlocked := u.link.unlocked, pendMiss := 0, pendDropped := 0 }
    ∧ u.frame = none ∧ u.slots.staged = [] ∧ u.cmd.inFlight = none ∧ u.resetHeld = false
    ∧ (Calm s → NoCommand s → (∀ (c : Channel) (v : Sample) (age : Nat), s.outputs[c] ≠ .live v age) → e.order = [] →
        (EndsGood f e.check ∧ headerNumber f.header ≠ f.number →
          u.notices = { NoticeQueue.raise { s.notices with records := Resent s.notices.records }
            s.cmd.params.noticeMask .none (.numberJump f.number (headerNumber f.header)) with pendingDrops := 0 })
        ∧ (¬(EndsGood f e.check ∧ headerNumber f.header ≠ f.number) →
          u.notices = { s.notices with records := Resent s.notices.records, pendingDrops := 0 }))

/-- The check word: a regenerated frame sends the CRC of the content it sent, 77 words in all. A forwarded frame sends
(CRC of outbound content) XOR (received check word) XOR (CRC of received content), so that it fails its check exactly
when the inbound frame failed, with the same syndrome, and keeps its received check word where the content was not
changed (R1, R11, R12, R26). -/
def Obligations.ErrorCarryKeepsTheSyndrome : Prop :=
  ∀ (s : State) (f : FrameInFlight) (e : FrameClose), AtEnd s f → ∃ u out,
    exec (.frameEnd e) s = .next u ∧ u.tx.sent = s.tx.sent ++ [out]
      ∧ (FrameWords s → u.tx.sent.length = 77 ∧ u.tx.sent.head? = some 0xF35C0A69#32)
      ∧ (f.regenerated = true → FrameWords s → out = crcOf (u.tx.sent.tail.take 75))
      ∧ (f.regenerated = false → FrameWords s →
          out ^^^ crcOf (u.tx.sent.tail.take 75) = e.check ^^^ crcValue f.rxCrc
            ∧ (out = crcOf (u.tx.sent.tail.take 75) ↔ e.check = crcValue f.rxCrc)
            ∧ (f.rxCrc = f.txCrc → out = e.check))

/-- The Sample Channels at a frame end. Each input channel whose latest sample carries the delivered mark becomes USED,
every other keeps its state, whatever the outcome. At a GOOD end each staged record sets its SAFE or LIVE channel LIVE
with the record's value and age 0. Every other LIVE channel ages by 1, to at most 255, and expires to SAFE when its
age reaches a hold limit other than 0; SAFE and UNASSIGNED channels stay (R50, R79, R80, R84, R85). -/
def Obligations.ChannelsAtTheFrameEnd : Prop :=
  ∀ (s : State) (f : FrameInFlight) (e : FrameClose), AtEnd s f → NoCommand s →
    (s.slots.staged.map TapRecord.channel).Nodup →
    ∃ u, exec (.frameEnd e) s = .next u ∧ ∀ c : Channel,
      (∀ v, s.inputs[c].state = .fresh v true → u.inputs[c].state = .used v)
      ∧ ((∀ v, s.inputs[c].state ≠ .fresh v true) → u.inputs[c].state = s.inputs[c].state)
      ∧ u.inputs[c].arrived = 0 ∧ u.inputs[c].overwritten = 0
      ∧ (s.outputs[c] = .unassigned → u.outputs[c] = .unassigned)
      ∧ (∀ t ∈ s.slots.staged, t.channel = c → EndsGood f e.check → s.outputs[c] ≠ .unassigned →
          u.outputs[c] = .live t.value 0)
      ∧ ((∀ t ∈ s.slots.staged, t.channel ≠ c) ∨ ¬EndsGood f e.check →
          (s.outputs[c] = .safe → u.outputs[c] = .safe)
          ∧ ∀ v age, s.outputs[c] = .live v age →
            (s.cmd.params.holdLimit[c] ≠ 0 → s.cmd.params.holdLimit[c] ≤ min 255 (age + 1) →
              u.outputs[c] = .safe)
            ∧ (s.cmd.params.holdLimit[c] = 0 ∨ min 255 (age + 1) < s.cmd.params.holdLimit[c] →
              u.outputs[c] = .live v (min 255 (age + 1))))
      ∧ u.cmd.params = s.cmd.params

/-- OUTPUT_EXPIRY is the frame end at which the channel expires: it is SAFE, its lane presents its safe value, and where
nothing else happens to the notices OUTPUT_EXPIRED is raised with the SAFE mask after the expiries (R82, R85), here in
the standard order of the works, which puts the resend step before the raising (assumption 4, the model's choice). Of a
channel that is not LIVE there is no such happening (assumptions 2, 3). -/
def Obligations.OutputExpiresToItsSafeValue : Prop :=
  ∀ (s : State) (f : FrameInFlight) (e : FrameClose) (c : Channel), AtEnd s f → NoCommand s →
    (∀ v age, s.outputs[c] = .live v age → s.cmd.params.holdLimit[c] ≠ 0 →
      s.cmd.params.holdLimit[c] ≤ min 255 (age + 1) →
      (∀ t ∈ s.slots.staged, t.channel ≠ c) ∨ ¬EndsGood f e.check →
      ∃ u, exec (.outputExpiry c e) s = .next u ∧ exec (.frameEnd e) s = .next u
        ∧ u.outputs[c] = .safe ∧ u.sout c = s.cmd.params.safeValue[c]
        ∧ (Calm s → e.order = [] → headerNumber f.header = f.number → ∃ mask : BitVec 8,
            (∀ d : Channel, mask.getLsbD d.val = true ↔ u.outputs[d] = .safe)
            ∧ u.notices = { NoticeQueue.raise { s.notices with records := Resent s.notices.records }
                s.cmd.params.noticeMask .none (.outputExpired mask) with pendingDrops := 0 }))
      ∧ ((∀ v age, s.outputs[c] ≠ .live v age) → exec (.outputExpiry c e) s = .next s)

/-- The courtesy-gap countdown at a frame end: set to COURTESY_GAP if the node wrote the region, whatever the outcome,
and otherwise 1 less down to 0. COURTESY_GAP_RUNS_OUT is the frame end at which it falls from 1 to 0, and does not
come about at another. No item written remains (R119, R120). -/
def Obligations.CourtesyGapCountsDown : Prop :=
  ∀ (s : State) (f : FrameInFlight) (e : FrameClose), AtEnd s f → NoCommand s →
    ∃ u, exec (.frameEnd e) s = .next u
      ∧ (s.arb.item ≠ .none → u.arb.gap = s.cmd.params.courtesyGap)
      ∧ (s.arb.item = .none → u.arb.gap = s.arb.gap - 1)
      ∧ u.arb.item = .none ∧ u.arb.written = false ∧ u.arb.denied = false ∧ u.arb.sentResponse = false
      ∧ (s.arb.item = .none ∧ s.arb.gap = 1 → exec (.courtesyGapRunsOut e) s = .next u ∧ u.arb.gap = 0)
      ∧ (¬(s.arb.item = .none ∧ s.arb.gap = 1) → exec (.courtesyGapRunsOut e) s = .next s)

/-- A raised notice: masked, it does nothing; into a QUEUED record of its kind it puts its values and one more repeat, at
most 127, under the sequence and place the record has, and sets the renewed mark if the record is the item written; an
AWAITING record of its kind it makes QUEUED under the next sequence; without such a record it is appended while there
are fewer than 6, and is dropped and counted otherwise (R124, R125, R131). -/
def Obligations.RaisedNoticeFoldsAppendsOrDrops : Prop :=
  ∀ (q : NoticeQueue) (mask : BitVec 8) (item : RegionItem) (n : Notice),
    (mask.getLsbD (noticeIndex n.kind).val = false → q.raise mask item n = q)
      ∧ (mask.getLsbD (noticeIndex n.kind).val = true →
        (∀ before r after, q.records = before ++ r :: after → r.kind = n.kind → (∀ x ∈ before, x.kind ≠ n.kind) →
          (∀ renewed, r.state = .queued renewed → q.raise mask item n =
            { q with records := before ++ { r with
                notice := n, repeats := min 127 (r.repeats + 1)
                state := .queued (renewed || decide (item = .notice n.kind)) } :: after })
          ∧ (∀ k, r.state = .awaiting k → q.raise mask item n =
            { q with
              records := before ++ { r with
                notice := n, seq := q.seqCounter, repeats := min 127 (r.repeats + 1), state := .queued false } :: after
              seqCounter := q.seqCounter + 1 }))
        ∧ ((∀ x ∈ q.records, x.kind ≠ n.kind) → q.records.length < 6 → q.raise mask item n =
            { q with
              records := q.records ++ [{ notice := n, seq := q.seqCounter, repeats := 0, state := .queued false }]
              seqCounter := q.seqCounter + 1 })
        ∧ ((∀ x ∈ q.records, x.kind ≠ n.kind) → 6 ≤ q.records.length → q.raise mask item n =
            { q with dropped := min 255 (q.dropped + 1), pendingDrops := q.pendingDrops + 1 }))

/-- Each AWAITING record's resend countdown falls by 1 at a frame end, and a record whose countdown reaches 0 is QUEUED
again with its sequence, repeat count, data and place; NOTICE_RESEND of a kind is the frame end at which that comes
about (R127). -/
def Obligations.NoticesAreSentAgain : Prop :=
  ∀ (s : State) (f : FrameInFlight) (e : FrameClose), AtEnd s f → Calm s → NoCommand s → NothingRaised s f →
    ∃ u, exec (.frameEnd e) s = .next u
      ∧ u.notices = { s.notices with records := Resent s.notices.records, pendingDrops := 0 }
      ∧ (∀ r ∈ s.notices.records, r.state = .awaiting 1 → exec (.noticeResend r.kind e) s = .next u)
      ∧ ∀ k, (∀ r ∈ s.notices.records, r.kind = k → ∀ n, r.state = .awaiting n → 2 ≤ n) →
          exec (.noticeResend k e) s = .next s

/-- Delivery: the response written becomes SENT at a GOOD or REGENERATED end and stays UNSENT with its contents at a
DAMAGED one; the notice written becomes AWAITING with countdown NOTICE_RESEND when it is delivered unrenewed, QUEUED
under the next sequence when it was renewed, and stays QUEUED under its own, unrenewed, when it is not delivered; its
place stands in every case (R120, R126). -/
def Obligations.DeliveryFollowsTheOutcome : Prop :=
  ∀ (s : State) (f : FrameInFlight) (e : FrameClose), AtEnd s f → NoCommand s →
    ∃ u, exec (.frameEnd e) s = .next u
      ∧ (∀ a, s.arb.item = .response → s.cmd.response = .unsent a →
          (f.regenerated = true ∨ e.check = crcValue f.rxCrc → u.cmd.response = .sent a)
          ∧ (f.regenerated = false → e.check ≠ crcValue f.rxCrc → u.cmd.response = .unsent a))
      ∧ (∀ (k : NoticeKind) (n : Nat) (r : NoticeRecord) (renewed : Bool),
          s.arb.item = .notice k → NoticesDistinct s → NothingRaised s f → s.counters.gate = false →
          s.snaps.scheduled = none → s.snaps.syncLossMark = false →
          s.notices.records[n]? = some r → r.kind = k → r.state = .queued renewed →
          (f.regenerated = true ∨ e.check = crcValue f.rxCrc →
            u.notices.records[n]? = some (if renewed then { r with seq := s.notices.seqCounter, state := .queued false }
              else { r with state := .awaiting s.cmd.params.noticeResend })
            ∧ u.notices.seqCounter = if renewed then s.notices.seqCounter + 1 else s.notices.seqCounter)
          ∧ (f.regenerated = false → e.check ≠ crcValue f.rxCrc →
            u.notices.records[n]? = some { r with state := .queued false }
            ∧ u.notices.seqCounter = s.notices.seqCounter))

/-- The Counter Bank at a frame end, whatever command it carries that does not act on this counter or the gate. With the
gate RUNNING an enabled counter takes the frame's amount of its source, one of the 28, over the classes or channels of
its mask: under threshold 0 it adds the amount, otherwise it adds 1 for a frame whose condition holds, under edge only
after one whose condition did not, and the previous condition takes this frame's. The value is kept modulo 2^40 and a
carry past it sets the wrap flag. A counter that is not evaluated stands. A capture at this frame end clears only a
counter with clear-on-capture after that (R33, R50, R51, R89, R104, R121, R134, R137, R138, R140 to R142, R151). -/
def Obligations.CountersTakeTheFrame : Prop :=
  ∀ (s : State) (f : FrameInFlight) (e : FrameClose) (i : CounterIndex), AtEnd s f → LeavesCounter s i →
    ∃ u, exec (.frameEnd e) s = .next u ∧ u.counters.gate = s.counters.gate
      ∧ LeftByFrameEnd s f e i u.counters.bank[i]
      ∧ (s.counters.bank[i].control.clearOnCapture = false → Evaluated s f e i u.counters.bank[i])

/-- COUNTER_WRAP of counter `i` is the frame end whose evaluation carries its value past 2^40 - 1, whatever command it
carries that does not act on the counters or snapshots itself. If its snapshot-on-wrap is set and the snapshot queue
has a place, the frame end captures with the cause WRAP, the counter's bit set in the wrap mask and its wrapped value
in the record, and clear-on-capture applies after that. A counter that is not evaluated does not wrap (R142, R151,
R154, R156; assumptions 2, 3). -/
def Obligations.CounterWrapsAndTriggers : Prop :=
  ∀ (s : State) (f : FrameInFlight) (e : FrameClose) (i : CounterIndex), AtEnd s f → CommandElsewhere s →
    (∀ a inc : Nat, EventsFresh s → s.counters.gate = true → s.counters.bank[i].control.enable = true →
      AmountIs s f e s.counters.bank[i].control a →
      Adds s.counters.bank[i].control s.counters.bank[i].previous a inc →
      2 ^ 40 ≤ s.counters.bank[i].value.toNat + inc →
      ∃ u, exec (.counterWrap i e) s = .next u ∧ exec (.frameEnd e) s = .next u
        ∧ LeftByFrameEnd s f e i u.counters.bank[i]
        ∧ (s.counters.bank[i].control.clearOnCapture = false →
            u.counters.bank[i].value.toNat = (s.counters.bank[i].value.toNat + inc) % 2 ^ 40
              ∧ u.counters.bank[i].wrapFlag = true)
        ∧ (s.counters.bank[i].control.snapOnWrap = true → s.snaps.queue.length < 4 →
            ∃ r, Captured s f e u r ∧ r.causes.wrap = true ∧ r.causes.command = false
              ∧ r.wrapMask.getLsbD i.val = true
              ∧ r.values[i].toNat = (s.counters.bank[i].value.toNat + inc) % 2 ^ 40))
      ∧ (s.counters.gate = false ∨ s.counters.bank[i].control.enable = false →
          exec (.counterWrap i e) s = .next s)

/-- The scheduled trigger at a frame end: at the first frame whose number is at or past F it fires and is IDLE. With a
place in the queue the frame end captures with the cause SCHEDULED and the next serial; with the queue full nothing is
captured, the lost count rises by 1 to at most 255, and every counter, one with clear-on-capture too, keeps what its
evaluation gave it. Before F the trigger stays ARMED and SCHEDULED_SNAPSHOT_FIRE does not come about. All of it whatever
command the frame carries that does not act on the counters or snapshots itself (R151, R155 to R158; assumptions 2,
3). -/
def Obligations.ScheduledSnapshotFires : Prop :=
  ∀ (s : State) (f : FrameInFlight) (e : FrameClose) (F : FrameNumber), AtEnd s f → CommandElsewhere s →
    s.snaps.scheduled = some F →
    ((f.number - F).toNat < 131072 → ∃ u, exec (.scheduledSnapshotFire e) s = .next u
        ∧ exec (.frameEnd e) s = .next u ∧ u.snaps.scheduled = none ∧ u.snaps.syncLossMark = false
        ∧ (s.snaps.queue.length < 4 → ∃ r, Captured s f e u r ∧ r.causes.scheduled = true
            ∧ r.causes.command = false
            ∧ r.causes.syncLoss = (s.snaps.syncLossMark && s.cmd.params.snapOnSyncLoss))
        ∧ (4 ≤ s.snaps.queue.length → u.snaps.queue = s.snaps.queue ∧ u.snaps.serial = s.snaps.serial
            ∧ u.snaps.lost = min 255 (s.snaps.lost + 1)
            ∧ ∀ i : CounterIndex, Evaluated s f e i u.counters.bank[i]))
      ∧ (131072 ≤ (f.number - F).toNat → exec (.scheduledSnapshotFire e) s = .next s
          ∧ ∃ u, exec (.frameEnd e) s = .next u ∧ u.snaps.scheduled = some F)

/-- A capture raises SNAPSHOT_READY with the capture E, the depth after it and the serial, and a lost one SNAPSHOT_LOST
with the lost count: here for a loss of sync under SNAP_ON_SYNC_LOSS 1, at a frame end to whose notices nothing else
happens but the resend step. With the parameter at 0 the mark gives no trigger; it is cleared in either case (R154,
R156, R157). -/
def Obligations.SyncLossTriggersASnapshot : Prop :=
  ∀ (s : State) (f : FrameInFlight) (e : FrameClose), AtEnd s f → NoCommand s → NothingRaised s f →
    s.arb.item = .none → s.counters.gate = false → s.snaps.scheduled = none → s.snaps.syncLossMark = true →
    ∃ u, exec (.frameEnd e) s = .next u ∧ u.snaps.syncLossMark = false
      ∧ (s.cmd.params.snapOnSyncLoss = true → s.snaps.queue.length < 4 → ∃ r, Captured s f e u r
          ∧ r.causes = { command := false, scheduled := false, wrap := false, syncLoss := true }
          ∧ u.notices = NoticeQueue.raise
              { s.notices with records := Resent s.notices.records, pendingDrops := 0 } s.cmd.params.noticeMask .none
              (.snapshotReady f.number (s.snaps.queue.length + 1) s.snaps.serial))
      ∧ (s.cmd.params.snapOnSyncLoss = true → 4 ≤ s.snaps.queue.length →
          u.snaps = { s.snaps with lost := min 255 (s.snaps.lost + 1), syncLossMark := false }
          ∧ u.notices = NoticeQueue.raise
              { s.notices with records := Resent s.notices.records, pendingDrops := 0 } s.cmd.params.noticeMask .none
              (.snapshotLost (min 255 (s.snaps.lost + 1))))
      ∧ (s.cmd.params.snapOnSyncLoss = false → u.snaps = { s.snaps with syncLossMark := false })

/-- COPY_COMPLETE is the frame end at which a running copy completes, whatever the outcome: the copy is IDLE, the two
banks are equal in every entry, and the PENDING response record becomes UNSENT with OK and the source bank, 0 for A
and 1 for B. Without a running copy it does not come about (R64, R65). -/
def Obligations.CopyCompletesAtTheFrameEnd : Prop :=
  ∀ (s : State) (f : FrameInFlight) (e : FrameClose), AtEnd s f → NoCommand s →
    (∀ (src : Bank) (q : SequenceNumber) (t : Tag), s.map.copy = some src → CopyKeepsUp s →
      s.cmd.response = .pending q t → s.arb.item ≠ .response →
      ∃ u, exec (.copyComplete e) s = .next u ∧ exec (.frameEnd e) s = .next u
        ∧ u.map = { s.map with copy := none } ∧ (∀ i : SlotNumber, u.map.bankA[i] = u.map.bankB[i])
        ∧ u.cmd.response = .unsent { seq := q, tag := t, status := .ok, data := [if src = .b then 1 else 0] })
      ∧ (s.map.copy = none → exec (.copyComplete e) s = .next s)

/-! ### Taking a command -/

/-- The row of a command is the frame end at which that command is taken, and no other command's row comes about there
(R96; assumptions 2, 3). At the end of a frame that does not end GOOD, or that carries no command for this node, no
command's row comes about, and the frame end is the one it would be with no command in flight: the command is dropped
without effect and without a count (R93, R96). -/
def Obligations.CommandsAreTakenAtGoodEnds : Prop :=
  ∀ (s : State) (f : FrameInFlight) (e : FrameClose), AtEnd s f →
    (∀ (r : Request) (n : CommandName), EndsGood f e.check → s.cmd.inFlight = some r → r.cls ≠ .none →
        r.name = some n → exec (commandRow n r e) s = exec (.frameEnd e) s
          ∧ ∀ (m : CommandName) (r' : Request), m ≠ n → exec (commandRow m r' e) s = .next s)
      ∧ (¬EndsGood f e.check ∨ NoCommand s →
          exec (.frameEnd e) s = exec (.frameEnd e) s.withoutCommand
            ∧ ∀ (m : CommandName) (r' : Request), exec (commandRow m r' e) s = .next s)

/-- A unicast command that the unicast sequence record does not let through: one with the recorded sequence returns a
SENT record to UNSENT with its contents as they stand, and one with any sequence leaves a PENDING or UNSENT record to
what the frame end does without it, so that a running copy that it meets completes, in either order, with OK and the
source bank. It is not executed, whatever its code, count and parameters, so nothing else differs from the same frame
end without it (R65, R66, R97, R100, R101). -/
def Obligations.RetriesAndOverrunsAreNotExecuted : Prop :=
  ∀ (s : State) (f : FrameInFlight) (e : FrameClose) (r : Request), AtGoodEnd s f e → s.cmd.inFlight = some r →
    r.cls = .unicast → s.arb.item ≠ .response →
    ∃ u q, exec (.frameEnd e) s = .next u ∧ exec (.frameEnd e) s.withoutCommand = .next q
      ∧ (∀ a, s.cmd.response = .sent a → a.seq = r.seq →
          u.cmd.response = .unsent a ∧ u.cmd.broadcastSeq = s.cmd.broadcastSeq ∧ SameButForTheAnswer s u q)
      ∧ ((∃ a, s.cmd.response = .unsent a) ∨ (∃ sq t, s.cmd.response = .pending sq t) →
          u.cmd.response = q.cmd.response ∧ u.cmd.broadcastSeq = s.cmd.broadcastSeq ∧ SameButForTheAnswer s u q)
      ∧ (∀ a, s.cmd.response = .unsent a → u.cmd.response = .unsent a)
      ∧ (∀ sq t, s.cmd.response = .pending sq t →
          (s.map.copy = none → u.cmd.response = .pending sq t)
          ∧ (∀ src, s.map.copy = some src → u.map = { s.map with copy := none } ∧ u.cmd.response =
              .unsent { seq := sq, tag := t, status := .ok, data := [if src = .b then 1 else 0] }))

/-- Where the delivery of an UNSENT record and a unicast command meet at one frame end, either may come first. Delivery
first: a new sequence is executed and the record takes its answer, and the recorded sequence returns the record to
UNSENT. Command first: a new sequence is discarded and the recorded one has no effect, and the delivery then makes the
record SENT (R101). -/
def Obligations.DeliveryMeetsTheCommand : Prop :=
  ∀ (s : State) (f : FrameInFlight) (e : FrameClose) (r : Request) (a : Answer), AtGoodEnd s f e →
    s.cmd.inFlight = some r → r.cls = .unicast → s.arb.item = .response → s.cmd.response = .unsent a →
    ∃ u, exec (.frameEnd e) s = .next u
      ∧ (Precedes e .delivery .command → r.seq ≠ a.seq → u.cmd.response.sequence = some r.seq)
      ∧ (Precedes e .delivery .command → r.seq = a.seq → u.cmd.response = .unsent a)
      ∧ (Precedes e .command .delivery → u.cmd.response = .sent a)

/-- A broadcast: with the recorded broadcast sequence it is ignored without a count, the frame end being the one without
it; with a new sequence and a code that is not NODE RESET, COMMIT, CANCEL COMMIT, GATE, TAKE SNAPSHOT or CANCEL
SNAPSHOT it is ignored and its sequence not recorded; otherwise it is executed and its sequence recorded. No broadcast
changes the response record, but that a NODE RESET changes a PENDING one (R98). -/
def Obligations.BroadcastsPassTheirOwnRecord : Prop :=
  ∀ (s : State) (f : FrameInFlight) (e : FrameClose) (r : Request), AtGoodEnd s f e → s.cmd.inFlight = some r →
    r.cls = .broadcast →
    (s.cmd.broadcastSeq = some r.seq → exec (.frameEnd e) s = exec (.frameEnd e) s.withoutCommand)
      ∧ (s.cmd.broadcastSeq ≠ some r.seq →
          ∃ u q, exec (.frameEnd e) s = .next u ∧ exec (.frameEnd e) s.withoutCommand = .next q
            ∧ (r.name ∉ [some .nodeReset, some .commit, some .cancelCommit, some .gate, some .takeSnapshot,
                  some .cancelSnapshot] →
                u.cmd.broadcastSeq = s.cmd.broadcastSeq ∧ u.cmd.response = q.cmd.response
                  ∧ SameButForTheAnswer s u q)
            ∧ (r.name ∈ [some .nodeReset, some .commit, some .cancelCommit, some .gate, some .takeSnapshot,
                  some .cancelSnapshot] →
                u.cmd.broadcastSeq = some r.seq
                  ∧ (r.name ≠ some .nodeReset ∨ (∀ sq t, s.cmd.response ≠ .pending sq t) →
                      u.cmd.response = q.cmd.response)))

/-- A unicast command that is executed and refused, by an unknown code or by any check of its own on the node as the
command meets it: the record takes the command's sequence and tag with the refusal's status and data, and nothing else
differs from the same frame end without the command. An unknown code draws BAD_COMMAND whatever the count, and a known
one with a parameter count of 5 to 7 BAD_PARAMETER, both with no data. A broadcast that is refused by a check, or
ignored for its code, changes nothing at all but its own sequence record, which only the former enters (R4, R57, R98,
R102). -/
def Obligations.RefusedCommandsChangeNothing : Prop :=
  ∀ (s : State) (f : FrameInFlight) (e : FrameClose) (r : Request), AtGoodEnd s f e → s.cmd.inFlight = some r →
    ∃ u q, exec (.frameEnd e) s = .next u ∧ exec (.frameEnd e) s.withoutCommand = .next q
      ∧ (r.cls = .unicast → s.cmd.response = .empty ∨ (∃ a, s.cmd.response = .sent a ∧ a.seq ≠ r.seq) →
          (∀ st data, Refuses (metByCommand s f e) r st data → Answered u r st data ∧ SameButForTheAnswer s u q)
          ∧ (r.name = none → Answered u r .badCommand [] ∧ SameButForTheAnswer s u q)
          ∧ (r.name ≠ none → 5 ≤ r.count → Answered u r .badParameter [] ∧ SameButForTheAnswer s u q))
      ∧ (r.cls = .broadcast → s.cmd.broadcastSeq ≠ some r.seq →
          (BroadcastName r.name → ∀ st data, Refuses (metByCommand s f e) r st data →
            u.cmd.response = q.cmd.response ∧ u.cmd.broadcastSeq = some r.seq ∧ SameButForTheAnswer s u q)
          ∧ (¬BroadcastName r.name →
            u.cmd.response = q.cmd.response ∧ u.cmd.broadcastSeq = s.cmd.broadcastSeq
              ∧ SameButForTheAnswer s u q))

/-- What a unicast command leaves alone, whether it is carried out or refused: beside the same frame end without it the
Link Receiver, the line, the Slot Engine, the input channels and the Response Arbiter stand, the map changes under a
map command alone, the output channels and the parameters under SET PARAMETER alone, the address under ASSIGN ADDRESS
alone; and on a calm frame end the counters, the snapshots and the notices change under their own commands alone. NODE
RESET is stated by itself (R96, R102). -/
def Obligations.CommandsKeepToTheirOwnState : Prop :=
  ∀ (s : State) (f : FrameInFlight) (e : FrameClose) (r : Request) (n : CommandName), Executes s f e r n →
    n ≠ .nodeReset →
    ∃ u q, exec (commandRow n r e) s = .next u ∧ exec (.frameEnd e) s.withoutCommand = .next q
      ∧ u.link = q.link ∧ u.frame = q.frame ∧ u.tx = q.tx ∧ u.slots = q.slots ∧ u.inputs = q.inputs ∧ u.arb = q.arb
      ∧ u.resetHeld = q.resetHeld ∧ u.pending = q.pending ∧ u.cmd.broadcastSeq = s.cmd.broadcastSeq
      ∧ u.cmd.response.sequence = some r.seq
      ∧ (n ∉ [.writeEntries, .copyActive, .commit, .cancelCommit] → u.map = q.map)
      ∧ (n ≠ .setParameter → u.outputs = q.outputs ∧ u.cmd.params = q.cmd.params)
      ∧ (n ≠ .assignAddress → u.cmd.address = q.cmd.address)
      ∧ (Calm s → n ∉ [.setCounter, .clearCounters, .gate, .takeSnapshot] → u.counters = q.counters)
      ∧ (Calm s → n ∉ [.takeSnapshot, .cancelSnapshot, .releaseSnapshot] → u.snaps = q.snaps)
      ∧ (Calm s → n ∉ [.acknowledgeNotice, .setParameter, .takeSnapshot] → u.notices = q.notices)

/-! ### The Command Unit's own commands -/

/-- R105: IDENTIFY requires a parameter count of 0, and any other draws BAD_PARAMETER. It answers OK with the identity
record in three data words: family 4C36h and revision 2; 64 slots, 8 input and 8 output channels, 16 counters;
snapshot depth 4 and notice depth 6. -/
def Obligations.IdentifyAnswersTheIdentityRecord : Prop :=
  ∀ (s : State) (f : FrameInFlight) (e : FrameClose) (r : Request), Executes s f e r .identify →
    ∃ u, exec (.identify e) s = .next u
      ∧ (r.count = 0 → Answered u r .ok
          [0x4C36#16 ++ 2#16, 64#8 ++ 8#8 ++ 8#8 ++ 16#8, 4#8 ++ 6#8 ++ 0#16])
      ∧ (r.count ≠ 0 → Answered u r .badParameter [])

/-- ASSIGN ADDRESS with a parameter count of 1 and a value from 1 to 61 sets the node address at the frame end and
answers OK with the identity record. Another unicast draws BAD_PARAMETER; another one that was claimed is not executed:
the address stays 0 and the record EMPTY (R106, R107). -/
def Obligations.AssignAddressSetsTheAddress : Prop :=
  ∀ (s : State) (f : FrameInFlight) (e : FrameClose) (r : Request),
    Executes s f e r .assignAddress
      ∨ (AtGoodEnd s f e ∧ s.cmd.inFlight = some r ∧ r.name = some .assignAddress ∧ r.cls = .firstUnaddressed
          ∧ s.cmd.address = 0 ∧ s.cmd.response = .empty) →
    ∃ u, exec (.assignAddress e) s = .next u
      ∧ (r.count = 1 ∧ 1 ≤ r.p0.toNat ∧ r.p0.toNat ≤ 61 →
          u.cmd.address.toNat = r.p0.toNat ∧ Answered u r .ok [0x4C360002, 0x40080810, 0x04060000])
      ∧ (¬(r.count = 1 ∧ 1 ≤ r.p0.toNat ∧ r.p0.toNat ≤ 61) →
          u.cmd.address = s.cmd.address
            ∧ (r.cls = .unicast → Answered u r .badParameter [])
            ∧ (r.cls = .firstUnaddressed → u.cmd.response = .empty))

/-- NODE RESET with a parameter count of 0 gives every block but the Link Receiver its reset values after its work for
the frame end: the commit and copy states at once, the two banks at the next header time, until which they stand (R35,
R55). It keeps the address, the sequences and the unread part of the response record, and leaves RESTARTED with
its cause as the one notice, under the sequence counter as it continues. A unicast is answered OK; a broadcast turns a
PENDING record into the OK of the copy or into ABORTED, by which of completion and reset comes first, and keeps an
EMPTY or SENT one. With another count nothing is reset (R14, R66, R109, R110, R122). -/
def Obligations.NodeResetKeepsLinkAndAddress : Prop :=
  ∀ (s : State) (f : FrameInFlight) (e : FrameClose) (r : Request), Carries s f e r .nodeReset →
    ∃ u q, exec (.nodeReset e) s = .next u ∧ exec (.frameEnd e) s.withoutCommand = .next q
      ∧ u.link = q.link ∧ u.tx = q.tx ∧ u.frame = none ∧ u.cmd.address = s.cmd.address
      ∧ (r.cls = .unicast → u.cmd.broadcastSeq = s.cmd.broadcastSeq)
      ∧ (r.cls = .broadcast → u.cmd.broadcastSeq = some r.seq)
      ∧ (r.count = 0 → ConfigurationReset u ∧ AnsweredIfUnicast u r .ok []
          ∧ u.map = { s.map with commit := none, copy := none, resetDue := true }
          ∧ (∃ sq, u.notices.records =
                [{ notice := .restarted (if r.cls = .broadcast then .broadcastReset else .unicastReset), seq := sq
                   repeats := 0, state := .queued false }]
              ∧ u.notices.seqCounter = sq + 1 ∧ u.notices.dropped = 0
              ∧ (Calm s → NothingRaised s f → sq = s.notices.seqCounter))
          ∧ (∀ sq t src, r.cls = .broadcast → s.cmd.response = .pending sq t → s.map.copy = some src →
              s.arb.item ≠ .response →
              (Precedes e .copyCompletion .command →
                u.cmd.response = .unsent { seq := sq, tag := t, status := .ok, data := [if src = .b then 1 else 0] })
              ∧ (Precedes e .command .copyCompletion →
                u.cmd.response = .unsent { seq := sq, tag := t, status := .aborted, data := [] }))
          ∧ (r.cls = .broadcast → s.cmd.response = .empty ∨ (∃ a, s.cmd.response = .sent a) →
              u.cmd.response = s.cmd.response))
      ∧ (r.count ≠ 0 → AnsweredIfUnicast u r .badParameter [] ∧ SameButForTheAnswer s u q)

/-- READ STATUS with a parameter count of 0 answers OK with four words whose fields are the node's state as it stands
after the frame end, E being the number the next frame will take; in a run the link state field reads LOCKED and the
lost flag 0. Another count draws BAD_PARAMETER (R90, R111). -/
def Obligations.ReadStatusReportsTheState : Prop :=
  ∀ (s : State) (f : FrameInFlight) (e : FrameClose) (r : Request), Executes s f e r .readStatus →
    ∃ u, exec (.readStatus e) s = .next u
      ∧ (r.count = 0 → ∃ w0 w1 w2 w3 : Word, Answered u r .ok [w0, w1, w2, w3]
          ∧ w0.extractLsb' 30 2 = u.link.state.code ∧ w0.getLsbD 29 = u.link.lostFlag
          ∧ w0.getLsbD 28 = u.map.commit.isSome ∧ w0.getLsbD 27 = (u.map.active == .b)
          ∧ w0.getLsbD 26 = u.map.copy.isSome ∧ w0.getLsbD 25 = u.counters.gate
          ∧ w0.extractLsb' 18 7 = 0 ∧ w0.extractLsb' 0 18 = u.link.E
          ∧ w1.extractLsb' 29 3 = BitVec.ofNat 3 u.notices.records.length
          ∧ w1.extractLsb' 26 3 = BitVec.ofNat 3 u.snaps.queue.length
          ∧ w1.extractLsb' 24 2 = 0 ∧ w1.extractLsb' 0 24 = BitVec.ofNat 24 u.link.unlocked
          ∧ w2.extractLsb' 18 14 = 0 ∧ w2.extractLsb' 0 18 = u.map.commit.getD 0
          ∧ (∀ c : Channel, w3.extractLsb' (2 * c.val + 16) 2 = u.outputs[c].code
              ∧ w3.extractLsb' (2 * c.val) 2 = u.inputs[c].state.code)
          ∧ (LinkLaw s → w0.extractLsb' 30 2 = 2 ∧ w0.getLsbD 29 = false))
      ∧ (r.count ≠ 0 → Answered u r .badParameter [])

/-- SET PARAMETER with a parameter count of 2, an id of R112 and a value in its range sets that one parameter at the
frame end and answers OK with the value now held, a SAFE_VALUE with its sign copied; anything else draws BAD_PARAMETER
and leaves the table as it stood. A new NOTICE_MASK removes the records of the kinds it masks; a new HOLD_LIMIT c other
than 0 at or below the age of a LIVE channel c expires it at once and raises OUTPUT_EXPIRED with the SAFE mask after it,
and otherwise every channel stands as the frame end left it. Where the Snapshot Unit raises SNAPSHOT_READY or
SNAPSHOT_LOST at the same frame end, OUTPUT_EXPIRED and a new mask come before or after it as the frame end says, so
that of two new kinds and one free place the first taken is appended and the second dropped. The raisings are stated
with the gate STOPPED, where the command's own event moves no counter (R86, R112, R113, R124, R130; assumption 16). -/
def Obligations.SetParameterStoresAndActs : Prop :=
  ∀ (s : State) (f : FrameInFlight) (e : FrameClose) (r : Request), Executes s f e r .setParameter →
    ∃ u q, exec (.setParameter e) s = .next u ∧ exec (.frameEnd e) s.withoutCommand = .next q
      ∧ (r.count = 2 → r.p0 = 0 → r.p1.toNat ≤ 15 → Answered u r .ok [r.p1] ∧ u.outputs = q.outputs
          ∧ u.cmd.params = { s.cmd.params with courtesyGap := r.p1.toNat })
      ∧ (r.count = 2 → r.p0 = 1 → 1 ≤ r.p1.toNat → r.p1.toNat ≤ 15 → Answered u r .ok [r.p1]
          ∧ u.outputs = q.outputs ∧ u.cmd.params = { s.cmd.params with flywheelLimit := r.p1.toNat })
      ∧ (r.count = 2 → r.p0 = 2 → 16 ≤ r.p1.toNat → r.p1.toNat ≤ 4095 → Answered u r .ok [r.p1]
          ∧ u.outputs = q.outputs ∧ u.cmd.params = { s.cmd.params with noticeResend := r.p1.toNat })
      ∧ (r.count = 2 → r.p0 = 3 → r.p1.toNat ≤ 255 → Answered u r .ok [r.p1] ∧ u.outputs = q.outputs
          ∧ u.cmd.params = { s.cmd.params with noticeMask := r.p1.extractLsb' 0 8 }
          ∧ (NoticesDistinct s → ∀ x ∈ u.notices.records, r.p1.getLsbD (noticeIndex x.kind).val = true)
          ∧ (NoticesDistinct s → Calm s → NothingRaised s f → u.notices.records =
              (Resent s.notices.records).filter fun x => r.p1.getLsbD (noticeIndex x.kind).val)
          ∧ (NoticesDistinct s → s.counters.gate = false →
              (e.snapshotFirst = true → u.notices = { q.notices with
                records := q.notices.records.filter fun x => r.p1.getLsbD (noticeIndex x.kind).val })
              ∧ (e.snapshotFirst = false → Triggers s f → u.notices =
                (atCapture s f e).notices.raise (r.p1.extractLsb' 0 8) .none (captureNotice s f))))
      ∧ (r.count = 2 → r.p0 = 4 → r.p1.toNat ≤ 1 → Answered u r .ok [r.p1] ∧ u.outputs = q.outputs
          ∧ u.cmd.params = { s.cmd.params with snapOnSyncLoss := r.p1 == 1 })
      ∧ (∀ c : Channel, r.count = 2 → r.p0.toNat = c.val + 8 → r.p1.toNat ≤ 255 → Answered u r .ok [r.p1]
          ∧ u.cmd.params = { s.cmd.params with holdLimit := s.cmd.params.holdLimit.set c r.p1.toNat }
          ∧ (∀ d : Channel, d ≠ c → u.outputs[d] = q.outputs[d])
          ∧ (∀ v age, q.outputs[c] = .live v age → r.p1 ≠ 0 → r.p1.toNat ≤ age → u.outputs[c] = .safe
              ∧ (s.counters.gate = false → ∃ mask : BitVec 8,
                  (∀ d : Channel, mask.getLsbD d.val = true ↔ u.outputs[d] = .safe)
                  ∧ (e.snapshotFirst = true ∨ ¬Triggers s f →
                      u.notices = q.notices.raise s.cmd.params.noticeMask .none (.outputExpired mask))
                  ∧ (Triggers s f → q.notices = (atCapture s f e).notices.raise s.cmd.params.noticeMask .none
                      (captureNotice s f))
                  ∧ (e.snapshotFirst = false → Triggers s f → u.notices = NoticeQueue.raise
                      ((atCapture s f e).notices.raise s.cmd.params.noticeMask .none (.outputExpired mask))
                      s.cmd.params.noticeMask .none (captureNotice s f))))
          ∧ ((∀ v age, q.outputs[c] = .live v age → r.p1 = 0 ∨ age < r.p1.toNat) →
              u.outputs[c] = q.outputs[c] ∧ (s.counters.gate = false → u.notices = q.notices)))
      ∧ (∀ c : Channel, r.count = 2 → r.p0.toNat = c.val + 16 →
          Answered u r .ok [(r.p1.extractLsb' 0 24).signExtend 32] ∧ u.outputs = q.outputs
            ∧ u.cmd.params = { s.cmd.params with safeValue := s.cmd.params.safeValue.set c (r.p1.extractLsb' 0 24) })
      ∧ (¬(r.count = 2 ∧ ParameterFits r.p0 r.p1) →
          Answered u r .badParameter [] ∧ u.cmd.params = s.cmd.params ∧ u.outputs = q.outputs)

/-- R114: GET PARAMETER with a parameter count of 1 and an id of R112 answers OK with one data word, the value held, a
SAFE_VALUE with bits 31 to 24 as copies of bit 23; a wrong count or another id draws BAD_PARAMETER. From the state that
a NODE RESET leaves it answers the default. -/
def Obligations.GetParameterAnswersTheValueHeld : Prop :=
  ∀ (s : State) (f : FrameInFlight) (e : FrameClose) (r : Request), Executes s f e r .getParameter →
    ∃ u, exec (.getParameter e) s = .next u
      ∧ (r.count = 1 → r.p0 = 0 → Answered u r .ok [BitVec.ofNat 32 s.cmd.params.courtesyGap])
      ∧ (r.count = 1 → r.p0 = 1 → Answered u r .ok [BitVec.ofNat 32 s.cmd.params.flywheelLimit])
      ∧ (r.count = 1 → r.p0 = 2 → Answered u r .ok [BitVec.ofNat 32 s.cmd.params.noticeResend])
      ∧ (r.count = 1 → r.p0 = 3 → Answered u r .ok [s.cmd.params.noticeMask.zeroExtend 32])
      ∧ (r.count = 1 → r.p0 = 4 → Answered u r .ok [if s.cmd.params.snapOnSyncLoss then 1 else 0])
      ∧ (∀ c : Channel, r.count = 1 → r.p0.toNat = c.val + 8 →
          Answered u r .ok [BitVec.ofNat 32 s.cmd.params.holdLimit[c]])
      ∧ (∀ c : Channel, r.count = 1 → r.p0.toNat = c.val + 16 →
          Answered u r .ok [(s.cmd.params.safeValue[c]).signExtend 32])
      ∧ (r.count ≠ 1 ∨ r.p0 = 5 ∨ r.p0 = 6 ∨ r.p0 = 7 ∨ 24 ≤ r.p0.toNat → Answered u r .badParameter [])
      ∧ (s.cmd.params = Parameters.default → r.count = 1 →
          (r.p0 = 0 → Answered u r .ok [2]) ∧ (r.p0 = 1 → Answered u r .ok [4])
            ∧ (r.p0 = 2 → Answered u r .ok [400]) ∧ (r.p0 = 3 → Answered u r .ok [255])
            ∧ (r.p0 = 4 → Answered u r .ok [0])
            ∧ (8 ≤ r.p0.toNat → r.p0.toNat ≤ 15 → Answered u r .ok [40])
            ∧ (16 ≤ r.p0.toNat → r.p0.toNat ≤ 23 → Answered u r .ok [0]))

/-! ### The map commands -/

/-- WRITE ENTRIES: with the parameter count its count field requires, a count of 1 to 6, start + count at most 64, no
entry of action code 7 and the commit IDLE, the carried entries stand in the shadow bank from the start slot on, bit
for bit, and nothing else of the Map Store changes; the answer is OK with no data. If a check fails no entry is
written: BAD_PARAMETER, or COMMIT_LOCKED while ARMED (R58, R59, R60). -/
def Obligations.WriteEntriesFillsTheShadowBank : Prop :=
  ∀ (s : State) (f : FrameInFlight) (e : FrameClose) (r : Request) (start k : Nat),
    Executes s f e r .writeEntries → s.map.copy = none →
    start = (r.p0.extractLsb' 8 8).toNat → k = (r.p0.extractLsb' 0 8).toNat →
    ∃ u, exec (.writeEntries e) s = .next u
      ∧ (WriteCountFits r.count k ∧ 1 ≤ k ∧ k ≤ 6 ∧ start + k ≤ 64
            ∧ (∀ j, j < k → (writtenHalf r j).extractLsb' 13 3 ≠ 7) →
          (s.map.commit = none → Answered u r .ok [] ∧ u.map.active = s.map.active
            ∧ u.map.bank s.map.active = s.map.bank s.map.active ∧ u.map.commit = none ∧ u.map.copy = none
            ∧ ∀ i : SlotNumber,
              (start ≤ i.val → i.val < start + k → u.map.shadow[i].bits = writtenHalf r (i.val - start))
              ∧ (i.val < start ∨ start + k ≤ i.val → u.map.shadow[i] = s.map.shadow[i]))
          ∧ (s.map.commit ≠ none → Answered u r .commitLocked [] ∧ u.map = s.map))
      ∧ (¬(WriteCountFits r.count k ∧ 1 ≤ k ∧ k ≤ 6 ∧ start + k ≤ 64
            ∧ (∀ j, j < k → (writtenHalf r j).extractLsb' 13 3 ≠ 7)) →
          Answered u r .badParameter [] ∧ u.map = s.map)

/-- READ ENTRIES with a parameter count of 1, a count of 1 to 8 and start + count at most 64 answers OK with the entries
of the active or shadow bank two to a word, the lower slot's in bits 31 to 16, and zero in the lower half of a last odd
word; anything else draws BAD_PARAMETER. The Map Store stands (R61, R62). -/
def Obligations.ReadEntriesAnswersABank : Prop :=
  ∀ (s : State) (f : FrameInFlight) (e : FrameClose) (r : Request) (start k : Nat) (v : MapBank),
    Executes s f e r .readEntries → s.map.copy = none →
    start = (r.p0.extractLsb' 8 8).toNat → k = (r.p0.extractLsb' 0 8).toNat →
    v = (if r.p0.getLsbD 16 then s.map.shadow else s.map.bank s.map.active) →
    ∃ u, exec (.readEntries e) s = .next u ∧ u.map = s.map
      ∧ (r.count = 1 ∧ 1 ≤ k ∧ k ≤ 8 ∧ start + k ≤ 64 → ∃ data : List Word, Answered u r .ok data
          ∧ data.length = (k + 1) / 2
          ∧ (∀ (j : Nat) (i : SlotNumber), j < k → i.val = start + j →
              (data.getD (j / 2) 0).extractLsb' (if j % 2 = 0 then 16 else 0) 16 = v[i].bits)
          ∧ (k % 2 = 1 → (data.getD (k / 2) 0).extractLsb' 0 16 = 0))
      ∧ (¬(r.count = 1 ∧ 1 ≤ k ∧ k ≤ 8 ∧ start + k ≤ 64) → Answered u r .badParameter [])

/-- COPY ACTIVE with a parameter count of 0 and nothing armed sets the copy RUNNING from the active bank, changes
neither bank, and leaves the record PENDING with the command's sequence and tag; a wrong count draws BAD_PARAMETER and
an armed commit COMMIT_LOCKED (R63). CANCEL COMMIT with a parameter count of 0 makes an ARMED commit IDLE, leaves both
banks as they stood, and answers OK with the F cancelled; IDLE draws NOT_ARMED and a wrong count BAD_PARAMETER (R72,
R73). -/
def Obligations.CopyStartsAndCommitIsCancelled : Prop :=
  ∀ (s : State) (f : FrameInFlight) (e : FrameClose) (r : Request), s.map.copy = none →
    (Executes s f e r .copyActive → ∃ u, exec (.copyActive e) s = .next u
        ∧ (r.count = 0 → s.map.commit = none → u.cmd.response = .pending r.seq r.tag
            ∧ u.map = { s.map with copy := some s.map.active })
        ∧ (r.count ≠ 0 → Answered u r .badParameter [] ∧ u.map = s.map)
        ∧ (r.count = 0 → s.map.commit ≠ none → Answered u r .commitLocked [] ∧ u.map = s.map))
      ∧ (Carries s f e r .cancelCommit → ∃ u, exec (.cancelCommit e) s = .next u
        ∧ (∀ F, r.count = 0 → s.map.commit = some F →
            AnsweredIfUnicast u r .ok [F.zeroExtend 32] ∧ u.map = { s.map with commit := none })
        ∧ (r.count = 0 → s.map.commit = none → AnsweredIfUnicast u r .notArmed [] ∧ u.map = s.map)
        ∧ (r.count ≠ 0 → AnsweredIfUnicast u r .badParameter [] ∧ u.map = s.map))

/-- COMMIT in either form, as a unicast or a broadcast, arms F: next E with no parameter, or bits 17 to 0 of word 0; the
answer is F and the distance from next E to it. The checks in order draw BAD_PARAMETER, NO_ADDRESS, ALREADY_ARMED and
MAP_CONFLICT, the last with the lowest slot in conflict and the lowest above it that conflicts with it, and change
nothing. A broadcast taken after the completion of a running copy goes on to these checks against the shadow bank as
copied; one taken before it is refused BUSY and arms nothing, and the copy completes (R66 to R69, R73). -/
def Obligations.CommitArmsOrSaysWhyNot : Prop :=
  ∀ (s : State) (f : FrameInFlight) (e : FrameClose) (r : Request) (m : MapStore), Carries s f e r .commit →
    m = { s.map with copy := none } →
    ∃ u, exec (.commit e) s = .next u
      ∧ (s.map.copy = none ∨ Precedes e .copyCompletion .command → ∀ F : FrameNumber,
          (r.count = 0 → F = u.link.E) → (r.count = 1 → F = r.p0.extractLsb' 0 18) →
          (2 ≤ r.count → AnsweredIfUnicast u r .badParameter [] ∧ u.map = m)
          ∧ (r.count ≤ 1 → s.cmd.address = 0 → AnsweredIfUnicast u r .noAddress [] ∧ u.map = m)
          ∧ (r.count ≤ 1 → s.cmd.address ≠ 0 → s.map.commit ≠ none →
              AnsweredIfUnicast u r .alreadyArmed [] ∧ u.map = m)
          ∧ (r.count ≤ 1 → s.cmd.address ≠ 0 → s.map.commit = none → ∀ i j : SlotNumber,
              Conflict s.map.shadow i j → (∀ i' j', Conflict s.map.shadow i' j' → i ≤ i') →
              (∀ j', Conflict s.map.shadow i j' → j ≤ j') →
              AnsweredIfUnicast u r .mapConflict [BitVec.ofNat 32 i.val, BitVec.ofNat 32 j.val] ∧ u.map = m)
          ∧ (r.count ≤ 1 → s.cmd.address ≠ 0 → s.map.commit = none → (∀ i j, ¬Conflict s.map.shadow i j) →
              AnsweredIfUnicast u r .ok [F.zeroExtend 32, (F - u.link.E).zeroExtend 32]
                ∧ u.map = { m with commit := some F }))
      ∧ (s.map.copy ≠ none → Precedes e .command .copyCompletion →
          u.map = m ∧ (r.count ≤ 1 → s.cmd.address ≠ 0 → AnsweredIfUnicast u r .busy []))

/-! ### The other blocks' commands -/

/-- ACKNOWLEDGE NOTICE of sequence `q`, at a frame end that brings nothing else to the notices: after the resend step
the first AWAITING record with that sequence is removed, the records behind it close up, and the dropped count is 0;
with none the answer is STALE_ACK and the queue stands; a wrong count or a value above 255 draws BAD_PARAMETER (R127,
R128, R131). -/
def Obligations.AcknowledgeRemovesOneRecord : Prop :=
  ∀ (s : State) (f : FrameInFlight) (e : FrameClose) (r : Request), Executes s f e r .acknowledgeNotice →
    Calm s → NothingRaised s f → ∃ u, exec (.acknowledgeNotice e) s = .next u
      ∧ (r.count ≠ 1 ∨ 255 < r.p0.toNat → Answered u r .badParameter []
          ∧ u.notices = { s.notices with records := Resent s.notices.records, pendingDrops := 0 })
      ∧ (r.count = 1 → r.p0.toNat ≤ 255 →
          (∀ before x after, Resent s.notices.records = before ++ x :: after → x.isAwaiting = true →
              x.seq.toNat = r.p0.toNat → (∀ y ∈ before, y.isAwaiting = true → y.seq.toNat ≠ r.p0.toNat) →
              Answered u r .ok []
                ∧ u.notices = { s.notices with records := before ++ after, dropped := 0, pendingDrops := 0 })
          ∧ ((∀ y ∈ Resent s.notices.records, y.isAwaiting = true → y.seq.toNat ≠ r.p0.toNat) →
              Answered u r .staleAck []
                ∧ u.notices = { s.notices with records := Resent s.notices.records, pendingDrops := 0 }))

/-- SET COUNTER, CLEAR COUNTERS and GATE. SET COUNTER stores bits 31 to 6 of its control word and its preset and clears
the wrap flag and the previous condition; CLEAR COUNTERS clears value, wrap flag and previous condition of each
counter of its mask; both leave the gate alone, and every other counter as this frame end leaves it. GATE start makes a
STOPPED gate RUNNING with every previous condition false, and leaves a RUNNING gate and every counter alone; GATE stop
makes the gate STOPPED and keeps every counter. A wrong count, an index above 15, a source code above 27, a mask above
65,535 or another gate value draws BAD_PARAMETER and changes nothing (R144, R145, R148 to R150). That a GATE whose word
0 is not 1 is the row GATE_STOP is the model's choice (assumption 21). -/
def Obligations.CounterCommandsWrite : Prop :=
  ∀ (s : State) (f : FrameInFlight) (e : FrameClose) (r : Request),
    (Executes s f e r .setCounter → ∃ u, exec (.setCounter e) s = .next u ∧ u.counters.gate = s.counters.gate
        ∧ (∀ i : CounterIndex, r.count = 4 → r.p0.toNat = i.val → (r.p1.extractLsb' 27 5).toNat ≤ 27 →
            Answered u r .ok [] ∧ u.counters.bank[i].value = r.p2.extractLsb' 0 8 ++ r.p3
              ∧ u.counters.bank[i].control.bits = r.p1.extractLsb' 6 26 ++ 0#6
              ∧ u.counters.bank[i].wrapFlag = false ∧ u.counters.bank[i].previous = false
              ∧ ∀ j : CounterIndex, j ≠ i → LeftByFrameEnd s f e j u.counters.bank[j]
                ∧ (Calm s → u.counters.bank[j] = s.counters.bank[j]))
        ∧ (¬(r.count = 4 ∧ r.p0.toNat ≤ 15 ∧ (r.p1.extractLsb' 27 5).toNat ≤ 27) →
            Answered u r .badParameter [] ∧ (∀ j : CounterIndex, LeftByFrameEnd s f e j u.counters.bank[j])
              ∧ (Calm s → u.counters.bank = s.counters.bank)))
      ∧ (Executes s f e r .clearCounters → ∃ u, exec (.clearCounters e) s = .next u
        ∧ u.counters.gate = s.counters.gate
        ∧ (r.count = 1 → r.p0.toNat ≤ 65535 → Answered u r .ok [] ∧ ∀ i : CounterIndex,
            u.counters.bank[i].control = s.counters.bank[i].control
              ∧ (r.p0.getLsbD i.val = true → u.counters.bank[i].value = 0
                  ∧ u.counters.bank[i].wrapFlag = false ∧ u.counters.bank[i].previous = false)
              ∧ (r.p0.getLsbD i.val = false → LeftByFrameEnd s f e i u.counters.bank[i]
                  ∧ (Calm s → u.counters.bank[i] = s.counters.bank[i])))
        ∧ (¬(r.count = 1 ∧ r.p0.toNat ≤ 65535) →
            Answered u r .badParameter [] ∧ (∀ j : CounterIndex, LeftByFrameEnd s f e j u.counters.bank[j])
              ∧ (Calm s → u.counters.bank = s.counters.bank)))
      ∧ (Carries s f e r .gate → r.p0 = 1 → ∃ u, exec (.gateStart e) s = .next u
        ∧ (r.count = 1 → AnsweredIfUnicast u r .ok [] ∧ u.counters.gate = true ∧ ∀ i : CounterIndex,
            (s.counters.gate = false → ∃ c, LeftByFrameEnd s f e i c
                ∧ u.counters.bank[i] = { c with previous := false })
              ∧ (s.counters.gate = true → LeftByFrameEnd s f e i u.counters.bank[i])
              ∧ (Calm s → u.counters.bank[i] = { s.counters.bank[i] with previous := false }))
        ∧ (r.count ≠ 1 → AnsweredIfUnicast u r .badParameter [] ∧ u.counters.gate = s.counters.gate
            ∧ ∀ j : CounterIndex, LeftByFrameEnd s f e j u.counters.bank[j]))
      ∧ (Carries s f e r .gate → r.p0 ≠ 1 → ∃ u, exec (.gateStop e) s = .next u
        ∧ (∀ j : CounterIndex, LeftByFrameEnd s f e j u.counters.bank[j])
        ∧ (r.count = 1 → r.p0 = 0 → AnsweredIfUnicast u r .ok [] ∧ u.counters.gate = false
            ∧ (Calm s → u.counters.bank = s.counters.bank))
        ∧ (r.count ≠ 1 ∨ r.p0 ≠ 0 → AnsweredIfUnicast u r .badParameter []
            ∧ u.counters.gate = s.counters.gate))

/-- GET COUNTER CONTROL answers the stored control word with bits 5 to 0 zero, and the previous condition and the wrap
flag in bits 1 and 0; READ COUNTERS answers the values of one or two counters, each as its bits 39 to 32 and then its
bits 31 to 0; both as they stand after the frame end. A wrong count, an index above 15, a count other than 1 or 2 or a
range past counter 15 draws BAD_PARAMETER (R146, R147). -/
def Obligations.CounterCommandsRead : Prop :=
  ∀ (s : State) (f : FrameInFlight) (e : FrameClose) (r : Request),
    (Executes s f e r .getCounterControl → ∃ u, exec (.getCounterControl e) s = .next u
        ∧ (∀ i : CounterIndex, r.count = 1 → r.p0.toNat = i.val → ∃ w : Word,
            Answered u r .ok [u.counters.bank[i].control.bits, w]
              ∧ (u.counters.bank[i].control.bits).extractLsb' 0 6 = 0
              ∧ w.getLsbD 0 = u.counters.bank[i].wrapFlag ∧ w.getLsbD 1 = u.counters.bank[i].previous
              ∧ w.extractLsb' 2 30 = 0)
        ∧ (r.count ≠ 1 ∨ 15 < r.p0.toNat → Answered u r .badParameter []))
      ∧ (Executes s f e r .readCounters → ∃ u, exec (.readCounters e) s = .next u
        ∧ (∀ i : CounterIndex, r.count = 2 → r.p0.toNat = i.val → r.p1 = 1 →
            Answered u r .ok [(u.counters.bank[i].value.extractLsb' 32 8).zeroExtend 32,
              u.counters.bank[i].value.extractLsb' 0 32])
        ∧ (∀ i j : CounterIndex, r.count = 2 → r.p0.toNat = i.val → r.p1 = 2 → j.val = i.val + 1 →
            Answered u r .ok [(u.counters.bank[i].value.extractLsb' 32 8).zeroExtend 32,
              u.counters.bank[i].value.extractLsb' 0 32, (u.counters.bank[j].value.extractLsb' 32 8).zeroExtend 32,
              u.counters.bank[j].value.extractLsb' 0 32])
        ∧ (¬(r.count = 2 ∧ (r.p1 = 1 ∨ r.p1 = 2) ∧ r.p0.toNat + r.p1.toNat ≤ 16) →
            Answered u r .badParameter []))

/-- TAKE SNAPSHOT now: with a place in the queue the frame end captures with COMMAND among the causes, and the answer
says so in bit 31 of word 0, with the depth, the record's serial and the lost count; with the queue full the capture
is lost, every counter keeps what its evaluation gave it, and the answer says that. It is never refused, and an armed schedule stands unless it fires here (R154, R156,
R157, R159). -/
def Obligations.TakeSnapshotNowCaptures : Prop :=
  ∀ (s : State) (f : FrameInFlight) (e : FrameClose) (r : Request), Carries s f e r .takeSnapshot →
    r.count = 0 → SnapshotsBounded s → ∃ u, exec (.takeSnapshotNow e) s = .next u
      ∧ (s.snaps.queue.length < 4 → ∃ x, Captured s f e u x ∧ x.causes.command = true
          ∧ AnsweredIfUnicast u r .ok
              [1#1 ++ 0#20 ++ BitVec.ofNat 3 (s.snaps.queue.length + 1) ++ s.snaps.serial,
                BitVec.ofNat 32 s.snaps.lost])
      ∧ (s.snaps.queue.length = 4 → u.snaps.queue = s.snaps.queue ∧ u.snaps.serial = s.snaps.serial
          ∧ u.snaps.lost = min 255 (s.snaps.lost + 1)
          ∧ (∀ i : CounterIndex, Evaluated s f e i u.counters.bank[i])
          ∧ AnsweredIfUnicast u r .ok [0x00000400, BitVec.ofNat 32 (min 255 (s.snaps.lost + 1))])
      ∧ (∀ F, s.snaps.scheduled = some F → 131072 ≤ (f.number - F).toNat → u.snaps.scheduled = some F)
      ∧ (s.snaps.scheduled = none → u.snaps.scheduled = none)

/-- TAKE SNAPSHOT with a frame number arms the scheduled trigger, after this frame end's own test, with bits 17 to 0 of
word 0, and answers F and the distance from next E to it; an armed trigger that did not fire here draws ALREADY_ARMED
and keeps its F. CANCEL SNAPSHOT makes such a trigger IDLE and answers its F, and draws NOT_ARMED without one. A wrong
count draws BAD_PARAMETER (R155, R160, R161). -/
def Obligations.SnapshotScheduleIsArmedAndCancelled : Prop :=
  ∀ (s : State) (f : FrameInFlight) (e : FrameClose) (r : Request) (armed : Option FrameNumber),
    (∀ F, armed = some F ↔ s.snaps.scheduled = some F ∧ 131072 ≤ (f.number - F).toNat) →
    (Carries s f e r .takeSnapshot → r.count ≠ 0 → ∃ u, exec (.takeSnapshotScheduled e) s = .next u
        ∧ (r.count = 1 → armed = none →
            AnsweredIfUnicast u r .ok
              [(r.p0.extractLsb' 0 18).zeroExtend 32, (r.p0.extractLsb' 0 18 - u.link.E).zeroExtend 32]
              ∧ u.snaps.scheduled = some (r.p0.extractLsb' 0 18))
        ∧ (r.count = 1 → armed ≠ none →
            AnsweredIfUnicast u r .alreadyArmed [] ∧ u.snaps.scheduled = armed)
        ∧ (r.count ≠ 1 → AnsweredIfUnicast u r .badParameter [] ∧ u.snaps.scheduled = armed))
      ∧ (Carries s f e r .cancelSnapshot → ∃ u, exec (.cancelSnapshot e) s = .next u
        ∧ (∀ F, r.count = 0 → armed = some F →
            AnsweredIfUnicast u r .ok [F.zeroExtend 32] ∧ u.snaps.scheduled = none)
        ∧ (r.count = 0 → armed = none → AnsweredIfUnicast u r .notArmed [] ∧ u.snaps.scheduled = none)
        ∧ (r.count ≠ 0 → AnsweredIfUnicast u r .badParameter [] ∧ u.snaps.scheduled = armed))

/-- READ SNAPSHOT of part 0 to 8 answers one part of the oldest record and changes nothing: part 0 its capture E, its
wrap mask, causes, gate and serial, and the depth after this frame end; part p the values of counters 2p - 2 and
2p - 1. RELEASE SNAPSHOT removes the oldest record, whatever this frame end appends behind the others, and changes
neither the scheduled trigger nor the lost count. Both draw QUEUE_EMPTY from a queue that was empty before this frame
end's capture, and BAD_PARAMETER from a wrong count or a part above 8 (R162, R163). -/
def Obligations.OldestSnapshotIsReadAndReleased : Prop :=
  ∀ (s : State) (f : FrameInFlight) (e : FrameClose) (r : Request),
    (Executes s f e r .readSnapshot → ∃ u, exec (.readSnapshot e) s = .next u
        ∧ (∃ new, u.snaps.queue = s.snaps.queue ++ new)
        ∧ (∀ x rest, s.snaps.queue = x :: rest → r.count = 1 → r.p0 = 0 → ∃ w1 : Word,
            Answered u r .ok [x.captureE.zeroExtend 32, w1, (BitVec.ofNat 3 u.snaps.queue.length).zeroExtend 32]
              ∧ w1.extractLsb' 16 16 = x.wrapMask ∧ w1.getLsbD 15 = x.causes.command
              ∧ w1.getLsbD 14 = x.causes.scheduled ∧ w1.getLsbD 13 = x.causes.wrap
              ∧ w1.getLsbD 12 = x.causes.syncLoss ∧ w1.extractLsb' 9 3 = 0 ∧ w1.getLsbD 8 = x.gate
              ∧ w1.extractLsb' 0 8 = x.serial)
        ∧ (∀ (x : SnapshotRecord) (rest : List SnapshotRecord) (i j : CounterIndex),
            s.snaps.queue = x :: rest → r.count = 1 → i.val + 2 = 2 * r.p0.toNat → j.val = i.val + 1 →
            Answered u r .ok [(x.values[i].extractLsb' 32 8).zeroExtend 32, x.values[i].extractLsb' 0 32,
              (x.values[j].extractLsb' 32 8).zeroExtend 32, x.values[j].extractLsb' 0 32])
        ∧ (r.count = 1 → r.p0.toNat ≤ 8 → s.snaps.queue = [] → Answered u r .queueEmpty [])
        ∧ (r.count ≠ 1 ∨ 8 < r.p0.toNat → Answered u r .badParameter []))
      ∧ (Executes s f e r .releaseSnapshot → ∃ u q, exec (.releaseSnapshot e) s = .next u
        ∧ exec (.frameEnd e) s.withoutCommand = .next q ∧ u.snaps.scheduled = q.snaps.scheduled
        ∧ (Calm s → u.snaps.lost = s.snaps.lost ∧ u.snaps.serial = s.snaps.serial)
        ∧ (∀ x rest, s.snaps.queue = x :: rest → r.count = 0 → Answered u r .ok []
            ∧ (∃ new, u.snaps.queue = rest ++ new ∧ new.length ≤ 1) ∧ (Calm s → u.snaps.queue = rest))
        ∧ (s.snaps.queue = [] → r.count = 0 → Answered u r .queueEmpty []
            ∧ (Calm s → u.snaps.queue = []))
        ∧ (r.count ≠ 0 → Answered u r .badParameter [] ∧ (Calm s → u.snaps.queue = s.snaps.queue)))

/-! ### Invariants -/

/-- Every step keeps the queues in bounds: at most 4 snapshot records; at most 6 notice records, no two of one kind and
none of a masked kind (R124, R130, R156). -/
def Obligations.QueuesStayBounded : Prop :=
  ∀ s t : State, SnapshotsBounded s → NoticesDistinct s → step s = .next t →
    SnapshotsBounded t ∧ NoticesDistinct t

/-- Every step keeps the first law of R36 and R56: no two TAP or DRAIN entries of the active bank name one output
channel, the shadow bank is as free of conflict while ARMED and no copy runs then, and a copy runs from the active
bank; and between a NODE RESET and the next header time nothing is armed and no copy runs (R55). -/
def Obligations.ActiveBankStaysFreeOfConflict : Prop :=
  ∀ s t : State, MapLaw s → step s = .next t → MapLaw t

/-- Every step keeps the second law of R36: while the node's address is 0 every entry of its active bank is PASS, with
nothing armed, and the address is 0 to 61. -/
def Obligations.UnaddressedNodePassesEverything : Prop :=
  ∀ s t : State, UnaddressedLaw s → step s = .next t → UnaddressedLaw t

/-- Every step keeps the law of ages (a LIVE output channel whose hold limit L is not 0 has age less than L, R85), the
ranges of R112, a response record of at most four data words, with none for a refusal but MAP_CONFLICT's two (R99,
R102), a record UNSENT while it is the item written (R117), and the events that a frame end counts uncounted before it
(R104, R121). -/
def Obligations.ValuesStayInRange : Prop :=
  ∀ s t : State, LiveWithinLimit s ∧ ParametersInRange s ∧ AnswerFits s ∧ EventsFresh s → step s = .next t →
    LiveWithinLimit t ∧ ParametersInRange t ∧ AnswerFits t ∧ EventsFresh t

/-- Every step keeps the laws of the link state: the position each state holds, the lost flag clear in LOCKED and
FLYWHEEL, the miss count 0 in LOCKED, below the limit in FLYWHEEL and never above 15, and a forwarded frame in flight
only while LOCKED (R14, R17 to R22, R92). -/
def Obligations.LinkStateStaysLawful : Prop :=
  ∀ s t : State, LinkLaw s → step s = .next t → LinkLaw t

/-- Every step keeps the frame in flight whole: its sync word first, as many words sent as have passed, its check
remainder over them, its number equal to E and its bank the active one (R1, R11, R31, R37). -/
def Obligations.FrameInFlightStaysWhole : Prop :=
  ∀ s t : State, FrameWords s ∧ FrameKeepsItsNumber s → step s = .next t → FrameWords t ∧ FrameKeepsItsNumber t

/-- Every step keeps the staged taps to one per output channel, so at most eight in all, each by an entry whose slot has
passed, and none between frames (R36, R38, R50); and it keeps a running copy in step with the frame: the record is
PENDING, and every slot that has passed holds the same entry in both banks (R59, R64, R65). -/
def Obligations.PassedSlotsStayTrue : Prop :=
  ∀ s t : State, MapLaw s → FrameKeepsItsNumber s → step s = .next t →
    (FrameWords s → StagedOnce s → StagedOnce t ∧ t.slots.staged.length ≤ 8)
      ∧ (CopyAnswersLater s → CopyKeepsUp s → CopyAnswersLater t ∧ CopyKeepsUp t)

/-- State.reset is the node as power-on leaves it (R14, R15, R122), and every invariant above holds of it. -/
def Obligations.ResetStateIsLawful : Prop :=
  AtReset State.reset ∧ State.reset.tx.line = .startup 0 ∧ State.reset.pending = []
    ∧ State.reset.resetHeld = false ∧ State.reset.linkOk = false ∧ State.reset.notices.seqCounter = 1
    ∧ (∃ r, State.reset.notices.records = [r] ∧ r.notice = .restarted .powerOrPin ∧ r.seq = 0 ∧ r.repeats = 0)
    ∧ SnapshotsBounded State.reset ∧ NoticesDistinct State.reset ∧ MapLaw State.reset ∧ UnaddressedLaw State.reset
    ∧ LiveWithinLimit State.reset ∧ ParametersInRange State.reset ∧ AnswerFits State.reset ∧ EventsFresh State.reset
    ∧ LinkLaw State.reset
    ∧ FrameWords State.reset ∧ FrameKeepsItsNumber State.reset ∧ StagedOnce State.reset
    ∧ CopyAnswersLater State.reset ∧ CopyKeepsUp State.reset
end

