-- ==== Sys2Proof/Laws/Operands.lean ====
section
/-! SUPPORT. The packed forms and their fields: what is read back is what was written, and which words are refused. -/

namespace Sys2Proof.Machine

/-! ### Command codes (R4) -/

/-- The code of a command names that command. -/
@[simp] theorem commandOfCode_code (n : CommandName) : commandOfCode (commandCode n) = some n := by
  unfold commandOfCode commandCode
  rw [Equiv.symm_apply_apply]
  cases n <;> rfl

/-- A code names a command exactly where it is that command's code. -/
theorem commandOfCode_eq_some {b : BitVec 8} {n : CommandName} : commandOfCode b = some n ↔ b = commandCode n := by
  refine ⟨fun h => ?_, fun h => h ▸ commandOfCode_code n⟩
  have hl : ∀ k : Nat, commands[k]? = some n → commands.idxOf n = k := by
    intro k hk
    obtain ⟨hk', rfl⟩ := List.getElem?_eq_some_iff.1 hk
    exact List.Nodup.idxOf_getElem (by decide) k hk'
  unfold commandCode
  rw [hl _ h, BitVec.ofNat_toNat, BitVec.setWidth_eq, Equiv.apply_symm_apply]

/-- No two commands share a code. -/
theorem commandCode_injective : Function.Injective commandCode := fun n m h => by
  simpa [← h] using commandOfCode_code m

/-- A code that is no command's code names none (R4). -/
theorem commandOfCode_eq_none {b : BitVec 8} : commandOfCode b = none ↔ ∀ n, b ≠ commandCode n := by
  simp [Option.eq_none_iff_forall_ne_some, commandOfCode_eq_some]

/-! ### Fields of packed words -/

/-- A field above the lower part of a packed word is a field of the upper part. -/
theorem extract_upper {m n : Nat} (a : BitVec m) (b : BitVec n) (i k : Nat) (h : n ≤ i) :
    (a ++ b).extractLsb' i k = a.extractLsb' (i - n) k := by
  ext j hj
  simp only [BitVec.getElem_extractLsb', BitVec.getLsbD_append]
  rw [if_neg (by omega), Nat.sub_add_comm h]

/-- A field inside the lower part of a packed word is a field of the lower part. -/
theorem extract_lower {m n : Nat} (a : BitVec m) (b : BitVec n) (i k : Nat) (h : i + k ≤ n) :
    (a ++ b).extractLsb' i k = b.extractLsb' i k := by
  ext j hj
  simp only [BitVec.getElem_extractLsb', BitVec.getLsbD_append]
  rw [if_pos (by omega)]

/-- A bit above the lower part. -/
theorem bit_upper {m n : Nat} (a : BitVec m) (b : BitVec n) (i : Nat) (h : n ≤ i) :
    (a ++ b).getLsbD i = a.getLsbD (i - n) := by
  simp [BitVec.getLsbD_append]; omega

/-- A bit inside the lower part. -/
theorem bit_lower {m n : Nat} (a : BitVec m) (b : BitVec n) (i : Nat) (h : i < n) :
    (a ++ b).getLsbD i = b.getLsbD i := by
  simp [BitVec.getLsbD_append]; omega

/-- The whole of a word as a field. -/
theorem extract_whole {n : Nat} (a : BitVec n) : a.extractLsb' 0 n = a := by
  ext j hj; simp

/-- A word is put together again from two fields that meet. -/
theorem extract_join {n : Nat} (a : BitVec n) (i k l : Nat) :
    a.extractLsb' (i + l) k ++ a.extractLsb' i l = a.extractLsb' i (k + l) := by
  ext j hj
  simp only [BitVec.getElem_append, BitVec.getElem_extractLsb']
  split
  · rfl
  · congr 1; omega

/-- One bit as a field of width 1. -/
theorem bit_field {n : Nat} (b : BitVec n) (i : Nat) : BitVec.ofBool (b.getLsbD i) = b.extractLsb' i 1 := by
  ext j hj
  obtain rfl : j = 0 := by omega
  simp

/-- Bit `i` of a mask written from a predicate is the predicate at `i`. -/
@[simp] theorem maskOf_getLsbD {n : Nat} (p : Fin n → Bool) (i : Fin n) : (maskOf n p).getLsbD i.val = p i := by
  simp [maskOf]

theorem fin8_ofNat (c : Fin 8) : fin8 (BitVec.ofNat 3 c.val) = c := by revert c; decide

theorem ofNat_fin8 (b : BitVec 3) : BitVec.ofNat 3 (fin8 b).val = b := by simp [fin8]

/-! ### Map entries (R7) -/

theorem MapAction.ofCode_code (a : MapAction) : MapAction.ofCode a.code = some a := by
  cases a <;> rfl

theorem MapAction.code_of_ofCode {b : BitVec 3} {a : MapAction} (h : MapAction.ofCode b = some a) : a.code = b := by
  have hb : b = 0 ∨ b = 1 ∨ b = 2 ∨ b = 3 ∨ b = 4 ∨ b = 5 ∨ b = 6 ∨ b = 7 := by clear h; revert b; decide
  rcases hb with rfl | rfl | rfl | rfl | rfl | rfl | rfl | rfl <;> cases h <;> rfl

/-- Action code 7 alone names no action (R7). -/
theorem MapAction.ofCode_eq_none {b : BitVec 3} : MapAction.ofCode b = none ↔ b = 7 := by
  revert b; decide

/-- Action code 7 alone makes a form no entry (R7). -/
theorem MapEntry.ofBits_eq_none {b : BitVec 16} : MapEntry.ofBits b = none ↔ b.extractLsb' 13 3 = 7 := by
  rw [MapEntry.ofBits, Option.map_eq_none_iff, MapAction.ofCode_eq_none]

theorem MapEntry.bits_action (e : MapEntry) : e.bits.extractLsb' 13 3 = e.action.code := by
  unfold MapEntry.bits
  iterate 4 rw [extract_upper _ _ _ _ (by decide)]
  exact extract_whole _

theorem MapEntry.bits_channel (e : MapEntry) : e.bits.extractLsb' 10 3 = BitVec.ofNat 3 e.channel.val := by
  unfold MapEntry.bits
  iterate 3 rw [extract_upper _ _ _ _ (by decide)]
  exact (extract_lower _ _ _ _ (by decide)).trans (extract_whole _)

theorem MapEntry.bits_cls (e : MapEntry) : e.bits.extractLsb' 7 3 = BitVec.ofNat 3 e.cls.val := by
  unfold MapEntry.bits
  iterate 2 rw [extract_upper _ _ _ _ (by decide)]
  exact (extract_lower _ _ _ _ (by decide)).trans (extract_whole _)

theorem MapEntry.bits_expect (e : MapEntry) : e.bits.getLsbD 6 = e.expect := by
  unfold MapEntry.bits
  rw [bit_upper _ _ _ (by decide), bit_lower _ _ _ (by decide)]
  cases e.expect <;> rfl

theorem MapEntry.bits_source (e : MapEntry) : e.bits.extractLsb' 0 6 = e.source :=
  (extract_lower _ _ _ _ (by decide)).trans (extract_whole _)

/-- An entry is read back from its 16-bit form (R7). -/
theorem MapEntry.ofBits_bits (e : MapEntry) : MapEntry.ofBits e.bits = some e := by
  rw [MapEntry.ofBits, e.bits_action, e.bits_channel, e.bits_cls, e.bits_expect, e.bits_source, MapAction.ofCode_code,
    fin8_ofNat, fin8_ofNat]
  rfl

/-- A form that names an entry is the entry's form, bit for bit (R7). -/
theorem MapEntry.bits_of_ofBits {b : BitVec 16} {e : MapEntry} (h : MapEntry.ofBits b = some e) : e.bits = b := by
  obtain ⟨a, ha, rfl⟩ := Option.map_eq_some_iff.1 h
  simp only [MapEntry.bits, MapAction.code_of_ofCode ha, ofNat_fin8, bit_field]
  rw [extract_join b 10 3 3, extract_join b 7 6 3, extract_join b 6 9 1, extract_join b 0 10 6]
  exact extract_whole b

/-! ### Counter control words (R9, R137) -/

theorem EventSource.ofCode_code (src : EventSource) : EventSource.ofCode src.code = some src := by
  rcases src with s | s | s <;> cases s <;> rfl

theorem EventSource.code_of_ofCode {b : BitVec 5} {src : EventSource} (h : EventSource.ofCode b = some src) :
    src.code = b := by
  have : ∀ i : Fin 32, ∀ x ∈ (EventSource.all[i.val]?).toList, x.code = BitVec.ofNat 5 i.val := by decide
  have := this ⟨b.toNat, b.isLt⟩ src (by simpa [EventSource.ofCode] using h)
  simpa using this

/-- Codes 28 to 31 name no source (R137). -/
theorem EventSource.ofCode_eq_none {b : BitVec 5} : EventSource.ofCode b = none ↔ 27 < b.toNat := by
  simp [EventSource.ofCode, EventSource.all]; omega

/-- Source codes 28 to 31 make a word no control word (R144). -/
theorem CounterControl.ofBits_eq_none {w : Word} :
    CounterControl.ofBits w = none ↔ 27 < (w.extractLsb' 27 5).toNat := by
  rw [CounterControl.ofBits, Option.map_eq_none_iff, EventSource.ofCode_eq_none]

/-- A control word's form is the word it was read from with bits 5 to 0 zero (R9, R145). -/
theorem CounterControl.bits_of_ofBits {w : Word} {c : CounterControl} (h : CounterControl.ofBits w = some c) :
    c.bits = w.extractLsb' 6 26 ++ 0#6 := by
  obtain ⟨src, hs, rfl⟩ := Option.map_eq_some_iff.1 h
  have hb : ∀ b : Bool, ((if b then Sense.below else .atLeast) == Sense.below) = b := by decide
  simp only [CounterControl.bits, EventSource.code_of_ofCode hs, hb, bit_field]
  rw [extract_join w 19 5 8, extract_join w 11 13 8, extract_join w 10 21 1, extract_join w 9 22 1,
    extract_join w 8 23 1, extract_join w 7 24 1, extract_join w 6 25 1]

/-! ### Numbers in words (R6) -/

/-- A 40-bit value is read back from its two words (R6). -/
theorem wordsValue_valueWords (v : CounterValue) :
    wordsValue ((v.extractLsb' 32 8).zeroExtend 32) (v.extractLsb' 0 32) = v := by
  have h : ((v.extractLsb' 32 8).zeroExtend 32).extractLsb' 0 8 = v.extractLsb' 32 8 := by
    ext j hj; simp [show j < 32 by omega]; intro; omega
  rw [wordsValue, h, extract_join v 0 8 32]
  exact extract_whole v

/-- A frame number is read back from its word (R6). -/
theorem wordFrame_frameWord (n : FrameNumber) : wordFrame (frameWord n) = n := by
  ext j hj; simp [wordFrame, frameWord, show j < 32 by omega, BitVec.getLsbD_eq_getElem hj]

/-- A signed sample is read back from its word (R6). -/
theorem wordSample_sampleWord (v : Sample) : wordSample (sampleWord v) = v := by
  ext j hj; simp [wordSample, sampleWord, show j < 32 by omega, BitVec.getElem_signExtend, hj]

end Sys2Proof.Machine
end

