-- ==== Sys2Proof/Laws/State.lean ====
section
/-! SUPPORT. The fields of the node after each whole-state update: what the update puts there, and what it leaves. -/

namespace Sys2Proof.Machine

variable (s : State)

/-! ### State.beginFrame -/

@[simp] theorem State.beginFrame_link (b : Bool) (t : BitTime) : (s.beginFrame b t).link = s.link := rfl
@[simp] theorem State.beginFrame_frame (b : Bool) (t : BitTime) :
    (s.beginFrame b t).frame = some
    { regenerated := b, pos := 1, number := s.link.E, header := 0, bank := s.map.active
      rxCrc := Config.crcPreset, txCrc := Config.crcPreset } := rfl
@[simp] theorem State.beginFrame_tx (b : Bool) (t : BitTime) :
    (s.beginFrame b t).tx = { line := .frame t (t - s.tx.line.freeFrom), sent := [Config.syncWord] } := rfl
@[simp] theorem State.beginFrame_slots (b : Bool) (t : BitTime) : (s.beginFrame b t).slots = s.slots := rfl
@[simp] theorem State.beginFrame_map (b : Bool) (t : BitTime) : (s.beginFrame b t).map = s.map := rfl
@[simp] theorem State.beginFrame_inputs (b : Bool) (t : BitTime) : (s.beginFrame b t).inputs = s.inputs := rfl
@[simp] theorem State.beginFrame_outputs (b : Bool) (t : BitTime) : (s.beginFrame b t).outputs = s.outputs := rfl
@[simp] theorem State.beginFrame_cmd (b : Bool) (t : BitTime) : (s.beginFrame b t).cmd = s.cmd := rfl
@[simp] theorem State.beginFrame_arb (b : Bool) (t : BitTime) : (s.beginFrame b t).arb = s.arb := rfl
@[simp] theorem State.beginFrame_notices (b : Bool) (t : BitTime) : (s.beginFrame b t).notices = s.notices := rfl
@[simp] theorem State.beginFrame_counters (b : Bool) (t : BitTime) : (s.beginFrame b t).counters = s.counters := rfl
@[simp] theorem State.beginFrame_snaps (b : Bool) (t : BitTime) : (s.beginFrame b t).snaps = s.snaps := rfl
@[simp] theorem State.beginFrame_resetHeld (b : Bool) (t : BitTime) :
    (s.beginFrame b t).resetHeld = s.resetHeld := rfl
@[simp] theorem State.beginFrame_pending (b : Bool) (t : BitTime) : (s.beginFrame b t).pending = s.pending := rfl

/-! ### State.passWords -/

@[simp] theorem State.passWords_link (f : FrameInFlight) (rx out : List Word) :
    (s.passWords f rx out).link = s.link := rfl
@[simp] theorem State.passWords_frame (f : FrameInFlight) (rx out : List Word) :
    (s.passWords f rx out).frame = some (f.pass rx out) := rfl
@[simp] theorem State.passWords_tx (f : FrameInFlight) (rx out : List Word) :
    (s.passWords f rx out).tx = { s.tx with sent := s.tx.sent ++ out } := rfl
@[simp] theorem State.passWords_slots (f : FrameInFlight) (rx out : List Word) :
    (s.passWords f rx out).slots = s.slots := rfl
@[simp] theorem State.passWords_map (f : FrameInFlight) (rx out : List Word) :
    (s.passWords f rx out).map = s.map := rfl
@[simp] theorem State.passWords_inputs (f : FrameInFlight) (rx out : List Word) :
    (s.passWords f rx out).inputs = s.inputs := rfl
@[simp] theorem State.passWords_outputs (f : FrameInFlight) (rx out : List Word) :
    (s.passWords f rx out).outputs = s.outputs := rfl
@[simp] theorem State.passWords_cmd (f : FrameInFlight) (rx out : List Word) :
    (s.passWords f rx out).cmd = s.cmd := rfl
@[simp] theorem State.passWords_arb (f : FrameInFlight) (rx out : List Word) :
    (s.passWords f rx out).arb = s.arb := rfl
@[simp] theorem State.passWords_notices (f : FrameInFlight) (rx out : List Word) :
    (s.passWords f rx out).notices = s.notices := rfl
@[simp] theorem State.passWords_counters (f : FrameInFlight) (rx out : List Word) :
    (s.passWords f rx out).counters = s.counters := rfl
@[simp] theorem State.passWords_snaps (f : FrameInFlight) (rx out : List Word) :
    (s.passWords f rx out).snaps = s.snaps := rfl
@[simp] theorem State.passWords_resetHeld (f : FrameInFlight) (rx out : List Word) :
    (s.passWords f rx out).resetHeld = s.resetHeld := rfl
@[simp] theorem State.passWords_pending (f : FrameInFlight) (rx out : List Word) :
    (s.passWords f rx out).pending = s.pending := rfl

/-! ### State.raise -/

@[simp] theorem State.raise_link (n : Notice) : (s.raise n).link = s.link := rfl
@[simp] theorem State.raise_frame (n : Notice) : (s.raise n).frame = s.frame := rfl
@[simp] theorem State.raise_tx (n : Notice) : (s.raise n).tx = s.tx := rfl
@[simp] theorem State.raise_slots (n : Notice) : (s.raise n).slots = s.slots := rfl
@[simp] theorem State.raise_map (n : Notice) : (s.raise n).map = s.map := rfl
@[simp] theorem State.raise_inputs (n : Notice) : (s.raise n).inputs = s.inputs := rfl
@[simp] theorem State.raise_outputs (n : Notice) : (s.raise n).outputs = s.outputs := rfl
@[simp] theorem State.raise_cmd (n : Notice) : (s.raise n).cmd = s.cmd := rfl
@[simp] theorem State.raise_arb (n : Notice) : (s.raise n).arb = s.arb := rfl
@[simp] theorem State.raise_notices (n : Notice) :
    (s.raise n).notices = s.notices.raise s.cmd.params.noticeMask s.arb.item n := rfl
@[simp] theorem State.raise_counters (n : Notice) : (s.raise n).counters = s.counters := rfl
@[simp] theorem State.raise_snaps (n : Notice) : (s.raise n).snaps = s.snaps := rfl
@[simp] theorem State.raise_resetHeld (n : Notice) : (s.raise n).resetHeld = s.resetHeld := rfl
@[simp] theorem State.raise_pending (n : Notice) : (s.raise n).pending = s.pending := rfl

/-! ### State.loseSync -/

@[simp] theorem State.loseSync_link : s.loseSync.link = { s.link with lostFlag := true, unlocked := 0 } := rfl
@[simp] theorem State.loseSync_frame : s.loseSync.frame = s.frame := rfl
@[simp] theorem State.loseSync_tx : s.loseSync.tx = s.tx := rfl
@[simp] theorem State.loseSync_slots : s.loseSync.slots = s.slots := rfl
@[simp] theorem State.loseSync_map : s.loseSync.map = s.map := rfl
@[simp] theorem State.loseSync_inputs : s.loseSync.inputs = s.inputs := rfl
@[simp] theorem State.loseSync_outputs : s.loseSync.outputs = s.outputs := rfl
@[simp] theorem State.loseSync_cmd : s.loseSync.cmd = s.cmd := rfl
@[simp] theorem State.loseSync_arb : s.loseSync.arb = s.arb := rfl
@[simp] theorem State.loseSync_notices :
    s.loseSync.notices = s.notices.raise s.cmd.params.noticeMask s.arb.item (.syncLost s.link.E s.link.missCount) :=
    rfl
@[simp] theorem State.loseSync_counters : s.loseSync.counters = s.counters := rfl
@[simp] theorem State.loseSync_snaps : s.loseSync.snaps = { s.snaps with syncLossMark := true } := rfl
@[simp] theorem State.loseSync_resetHeld : s.loseSync.resetHeld = s.resetHeld := rfl
@[simp] theorem State.loseSync_pending : s.loseSync.pending = s.pending := rfl

/-! ### State.giveUp -/

@[simp] theorem State.giveUp_link : s.giveUp.link = { s.link.toHunt with lostFlag := true, unlocked := 0 } := rfl
@[simp] theorem State.giveUp_frame : s.giveUp.frame = s.frame := rfl
@[simp] theorem State.giveUp_tx : s.giveUp.tx = s.tx := rfl
@[simp] theorem State.giveUp_slots : s.giveUp.slots = s.slots := rfl
@[simp] theorem State.giveUp_map : s.giveUp.map = s.map := rfl
@[simp] theorem State.giveUp_inputs : s.giveUp.inputs = s.inputs := rfl
@[simp] theorem State.giveUp_outputs : s.giveUp.outputs = s.outputs := rfl
@[simp] theorem State.giveUp_cmd : s.giveUp.cmd = s.cmd := rfl
@[simp] theorem State.giveUp_arb : s.giveUp.arb = s.arb := rfl
@[simp] theorem State.giveUp_notices :
    s.giveUp.notices = s.notices.raise s.cmd.params.noticeMask s.arb.item (.syncLost s.link.E s.link.missCount) := rfl
@[simp] theorem State.giveUp_counters : s.giveUp.counters = s.counters := rfl
@[simp] theorem State.giveUp_snaps : s.giveUp.snaps = { s.snaps with syncLossMark := true } := rfl
@[simp] theorem State.giveUp_resetHeld : s.giveUp.resetHeld = s.resetHeld := rfl
@[simp] theorem State.giveUp_pending : s.giveUp.pending = s.pending := rfl

/-! ### State.fireCommit -/

@[simp] theorem State.fireCommit_link (n f : FrameNumber) : (s.fireCommit n f).link = s.link := rfl
@[simp] theorem State.fireCommit_frame (n f : FrameNumber) : (s.fireCommit n f).frame = s.frame := rfl
@[simp] theorem State.fireCommit_tx (n f : FrameNumber) : (s.fireCommit n f).tx = s.tx := rfl
@[simp] theorem State.fireCommit_slots (n f : FrameNumber) : (s.fireCommit n f).slots = s.slots := rfl
@[simp] theorem State.fireCommit_map (n f : FrameNumber) :
    (s.fireCommit n f).map = { s.map with active := s.map.active.other, commit := none } := rfl
@[simp] theorem State.fireCommit_inputs (n f : FrameNumber) : (s.fireCommit n f).inputs = s.inputs := rfl
@[simp] theorem State.fireCommit_outputs (n f : FrameNumber) :
    (s.fireCommit n f).outputs = Vector.ofFn fun c : Channel => s.outputs[c].reassign
      (namesOutput (s.map.bank s.map.active) c) (namesOutput s.map.shadow c) := rfl
@[simp] theorem State.fireCommit_cmd (n f : FrameNumber) : (s.fireCommit n f).cmd = s.cmd := rfl
@[simp] theorem State.fireCommit_arb (n f : FrameNumber) : (s.fireCommit n f).arb = s.arb := rfl
@[simp] theorem State.fireCommit_notices (n f : FrameNumber) :
    (s.fireCommit n f).notices = s.notices.raise s.cmd.params.noticeMask s.arb.item
      (.commitDone n (distance f n) s.map.active.other) := rfl
@[simp] theorem State.fireCommit_counters (n f : FrameNumber) : (s.fireCommit n f).counters = s.counters := rfl
@[simp] theorem State.fireCommit_snaps (n f : FrameNumber) : (s.fireCommit n f).snaps = s.snaps := rfl
@[simp] theorem State.fireCommit_resetHeld (n f : FrameNumber) : (s.fireCommit n f).resetHeld = s.resetHeld := rfl
@[simp] theorem State.fireCommit_pending (n f : FrameNumber) : (s.fireCommit n f).pending = s.pending := rfl

/-! ### State.closeLine -/

@[simp] theorem State.closeLine_link (f : FrameInFlight) (w : Word) : (s.closeLine f w).link = s.link := rfl
@[simp] theorem State.closeLine_frame (f : FrameInFlight) (w : Word) : (s.closeLine f w).frame = none := rfl
@[simp] theorem State.closeLine_tx (f : FrameInFlight) (w : Word) :
    (s.closeLine f w).tx = {
      line := if s.link.relockWait then .relockFill s.tx.line.freeFrom else s.tx.line
      sent := s.tx.sent ++ [f.checkOut w] } := rfl
@[simp] theorem State.closeLine_slots (f : FrameInFlight) (w : Word) : (s.closeLine f w).slots = s.slots := rfl
@[simp] theorem State.closeLine_map (f : FrameInFlight) (w : Word) : (s.closeLine f w).map = s.map := rfl
@[simp] theorem State.closeLine_inputs (f : FrameInFlight) (w : Word) : (s.closeLine f w).inputs = s.inputs := rfl
@[simp] theorem State.closeLine_outputs (f : FrameInFlight) (w : Word) : (s.closeLine f w).outputs = s.outputs := rfl
@[simp] theorem State.closeLine_cmd (f : FrameInFlight) (w : Word) : (s.closeLine f w).cmd = s.cmd := rfl
@[simp] theorem State.closeLine_arb (f : FrameInFlight) (w : Word) : (s.closeLine f w).arb = s.arb := rfl
@[simp] theorem State.closeLine_notices (f : FrameInFlight) (w : Word) : (s.closeLine f w).notices = s.notices := rfl
@[simp] theorem State.closeLine_counters (f : FrameInFlight) (w : Word) :
    (s.closeLine f w).counters = s.counters := rfl
@[simp] theorem State.closeLine_snaps (f : FrameInFlight) (w : Word) : (s.closeLine f w).snaps = s.snaps := rfl
@[simp] theorem State.closeLine_resetHeld (f : FrameInFlight) (w : Word) :
    (s.closeLine f w).resetHeld = s.resetHeld := rfl
@[simp] theorem State.closeLine_pending (f : FrameInFlight) (w : Word) : (s.closeLine f w).pending = s.pending := rfl

/-! ### State.reopenResponse -/

@[simp] theorem State.reopenResponse_link : s.reopenResponse.link = s.link := rfl
@[simp] theorem State.reopenResponse_frame : s.reopenResponse.frame = s.frame := rfl
@[simp] theorem State.reopenResponse_tx : s.reopenResponse.tx = s.tx := rfl
@[simp] theorem State.reopenResponse_slots : s.reopenResponse.slots = s.slots := rfl
@[simp] theorem State.reopenResponse_map : s.reopenResponse.map = s.map := rfl
@[simp] theorem State.reopenResponse_inputs : s.reopenResponse.inputs = s.inputs := rfl
@[simp] theorem State.reopenResponse_outputs : s.reopenResponse.outputs = s.outputs := rfl
@[simp] theorem State.reopenResponse_cmd :
    s.reopenResponse.cmd = { s.cmd with response := s.cmd.response.reopen } := rfl
@[simp] theorem State.reopenResponse_arb : s.reopenResponse.arb = s.arb := rfl
@[simp] theorem State.reopenResponse_notices : s.reopenResponse.notices = s.notices := rfl
@[simp] theorem State.reopenResponse_counters : s.reopenResponse.counters = s.counters := rfl
@[simp] theorem State.reopenResponse_snaps : s.reopenResponse.snaps = s.snaps := rfl
@[simp] theorem State.reopenResponse_resetHeld : s.reopenResponse.resetHeld = s.resetHeld := rfl
@[simp] theorem State.reopenResponse_pending : s.reopenResponse.pending = s.pending := rfl

/-! ### State.countCommand -/

@[simp] theorem State.countCommand_link (a b c d : Bool) : (s.countCommand a b c d).link = s.link := rfl
@[simp] theorem State.countCommand_frame (a b c d : Bool) : (s.countCommand a b c d).frame = s.frame := rfl
@[simp] theorem State.countCommand_tx (a b c d : Bool) : (s.countCommand a b c d).tx = s.tx := rfl
@[simp] theorem State.countCommand_slots (a b c d : Bool) : (s.countCommand a b c d).slots = s.slots := rfl
@[simp] theorem State.countCommand_map (a b c d : Bool) : (s.countCommand a b c d).map = s.map := rfl
@[simp] theorem State.countCommand_inputs (a b c d : Bool) : (s.countCommand a b c d).inputs = s.inputs := rfl
@[simp] theorem State.countCommand_outputs (a b c d : Bool) : (s.countCommand a b c d).outputs = s.outputs := rfl
@[simp] theorem State.countCommand_cmd (a b c d : Bool) :
    (s.countCommand a b c d).cmd = { s.cmd with amounts := { taken := a, refused := b, overrun := c, resent := d } } :=
    rfl
@[simp] theorem State.countCommand_arb (a b c d : Bool) : (s.countCommand a b c d).arb = s.arb := rfl
@[simp] theorem State.countCommand_notices (a b c d : Bool) : (s.countCommand a b c d).notices = s.notices := rfl
@[simp] theorem State.countCommand_counters (a b c d : Bool) : (s.countCommand a b c d).counters = s.counters := rfl
@[simp] theorem State.countCommand_snaps (a b c d : Bool) : (s.countCommand a b c d).snaps = s.snaps := rfl
@[simp] theorem State.countCommand_resetHeld (a b c d : Bool) :
    (s.countCommand a b c d).resetHeld = s.resetHeld := rfl
@[simp] theorem State.countCommand_pending (a b c d : Bool) : (s.countCommand a b c d).pending = s.pending := rfl

/-! ### State.putCounter -/

@[simp] theorem State.putCounter_link (i : CounterIndex) (c : Counter) : (s.putCounter i c).link = s.link := rfl
@[simp] theorem State.putCounter_frame (i : CounterIndex) (c : Counter) : (s.putCounter i c).frame = s.frame := rfl
@[simp] theorem State.putCounter_tx (i : CounterIndex) (c : Counter) : (s.putCounter i c).tx = s.tx := rfl
@[simp] theorem State.putCounter_slots (i : CounterIndex) (c : Counter) : (s.putCounter i c).slots = s.slots := rfl
@[simp] theorem State.putCounter_map (i : CounterIndex) (c : Counter) : (s.putCounter i c).map = s.map := rfl
@[simp] theorem State.putCounter_inputs (i : CounterIndex) (c : Counter) : (s.putCounter i c).inputs = s.inputs := rfl
@[simp] theorem State.putCounter_outputs (i : CounterIndex) (c : Counter) :
    (s.putCounter i c).outputs = s.outputs := rfl
@[simp] theorem State.putCounter_cmd (i : CounterIndex) (c : Counter) : (s.putCounter i c).cmd = s.cmd := rfl
@[simp] theorem State.putCounter_arb (i : CounterIndex) (c : Counter) : (s.putCounter i c).arb = s.arb := rfl
@[simp] theorem State.putCounter_notices (i : CounterIndex) (c : Counter) :
    (s.putCounter i c).notices = s.notices := rfl
@[simp] theorem State.putCounter_counters (i : CounterIndex) (c : Counter) :
    (s.putCounter i c).counters = { s.counters with bank := s.counters.bank.set i c } := rfl
@[simp] theorem State.putCounter_snaps (i : CounterIndex) (c : Counter) : (s.putCounter i c).snaps = s.snaps := rfl
@[simp] theorem State.putCounter_resetHeld (i : CounterIndex) (c : Counter) :
    (s.putCounter i c).resetHeld = s.resetHeld := rfl
@[simp] theorem State.putCounter_pending (i : CounterIndex) (c : Counter) :
    (s.putCounter i c).pending = s.pending := rfl

/-! ### State.putParam -/

@[simp] theorem State.putParam_link (p : ParamId) (w : Word) : (s.putParam p w).link = s.link := rfl
@[simp] theorem State.putParam_frame (p : ParamId) (w : Word) : (s.putParam p w).frame = s.frame := rfl
@[simp] theorem State.putParam_tx (p : ParamId) (w : Word) : (s.putParam p w).tx = s.tx := rfl
@[simp] theorem State.putParam_slots (p : ParamId) (w : Word) : (s.putParam p w).slots = s.slots := rfl
@[simp] theorem State.putParam_map (p : ParamId) (w : Word) : (s.putParam p w).map = s.map := rfl
@[simp] theorem State.putParam_inputs (p : ParamId) (w : Word) : (s.putParam p w).inputs = s.inputs := rfl
@[simp] theorem State.putParam_outputs (p : ParamId) (w : Word) : (s.putParam p w).outputs = s.outputs := rfl
@[simp] theorem State.putParam_cmd (p : ParamId) (w : Word) :
    (s.putParam p w).cmd = { s.cmd with params := s.cmd.params.put p w } := rfl
@[simp] theorem State.putParam_arb (p : ParamId) (w : Word) : (s.putParam p w).arb = s.arb := rfl
@[simp] theorem State.putParam_notices (p : ParamId) (w : Word) : (s.putParam p w).notices = s.notices := rfl
@[simp] theorem State.putParam_counters (p : ParamId) (w : Word) : (s.putParam p w).counters = s.counters := rfl
@[simp] theorem State.putParam_snaps (p : ParamId) (w : Word) : (s.putParam p w).snaps = s.snaps := rfl
@[simp] theorem State.putParam_resetHeld (p : ParamId) (w : Word) : (s.putParam p w).resetHeld = s.resetHeld := rfl
@[simp] theorem State.putParam_pending (p : ParamId) (w : Word) : (s.putParam p w).pending = s.pending := rfl

/-! ### State.abandonCopy -/

@[simp] theorem State.abandonCopy_link : s.abandonCopy.link = s.link := rfl
@[simp] theorem State.abandonCopy_frame : s.abandonCopy.frame = s.frame := rfl
@[simp] theorem State.abandonCopy_tx : s.abandonCopy.tx = s.tx := rfl
@[simp] theorem State.abandonCopy_slots : s.abandonCopy.slots = s.slots := rfl
@[simp] theorem State.abandonCopy_map : s.abandonCopy.map = { s.map with copy := none } := rfl
@[simp] theorem State.abandonCopy_inputs : s.abandonCopy.inputs = s.inputs := rfl
@[simp] theorem State.abandonCopy_outputs : s.abandonCopy.outputs = s.outputs := rfl
@[simp] theorem State.abandonCopy_arb : s.abandonCopy.arb = s.arb := rfl
@[simp] theorem State.abandonCopy_notices : s.abandonCopy.notices = s.notices := rfl
@[simp] theorem State.abandonCopy_counters : s.abandonCopy.counters = s.counters := rfl
@[simp] theorem State.abandonCopy_snaps : s.abandonCopy.snaps = s.snaps := rfl
@[simp] theorem State.abandonCopy_resetHeld : s.abandonCopy.resetHeld = s.resetHeld := rfl
@[simp] theorem State.abandonCopy_pending : s.abandonCopy.pending = s.pending := rfl

/-! ### State.makeCapture -/

@[simp] theorem State.makeCapture_link (n : FrameNumber) (c : Causes) : (s.makeCapture n c).link = s.link := rfl
@[simp] theorem State.makeCapture_frame (n : FrameNumber) (c : Causes) : (s.makeCapture n c).frame = s.frame := rfl
@[simp] theorem State.makeCapture_tx (n : FrameNumber) (c : Causes) : (s.makeCapture n c).tx = s.tx := rfl
@[simp] theorem State.makeCapture_slots (n : FrameNumber) (c : Causes) : (s.makeCapture n c).slots = s.slots := rfl
@[simp] theorem State.makeCapture_map (n : FrameNumber) (c : Causes) : (s.makeCapture n c).map = s.map := rfl
@[simp] theorem State.makeCapture_inputs (n : FrameNumber) (c : Causes) : (s.makeCapture n c).inputs = s.inputs := rfl
@[simp] theorem State.makeCapture_outputs (n : FrameNumber) (c : Causes) :
    (s.makeCapture n c).outputs = s.outputs := rfl
@[simp] theorem State.makeCapture_cmd (n : FrameNumber) (c : Causes) : (s.makeCapture n c).cmd = s.cmd := rfl
@[simp] theorem State.makeCapture_arb (n : FrameNumber) (c : Causes) : (s.makeCapture n c).arb = s.arb := rfl
@[simp] theorem State.makeCapture_notices (n : FrameNumber) (c : Causes) :
    (s.makeCapture n c).notices = s.notices.raise s.cmd.params.noticeMask s.arb.item
      (.snapshotReady n (s.snaps.queue.length + 1) s.snaps.serial) := rfl
@[simp] theorem State.makeCapture_counters (n : FrameNumber) (c : Causes) :
    (s.makeCapture n c).counters = s.counters.captured := rfl
@[simp] theorem State.makeCapture_snaps (n : FrameNumber) (c : Causes) :
    (s.makeCapture n c).snaps = { s.snaps with
      queue := s.snaps.queue ++ [snapshotOf s.snaps s.counters n c], serial := s.snaps.serial + 1 } := rfl
@[simp] theorem State.makeCapture_resetHeld (n : FrameNumber) (c : Causes) :
    (s.makeCapture n c).resetHeld = s.resetHeld := rfl
@[simp] theorem State.makeCapture_pending (n : FrameNumber) (c : Causes) :
    (s.makeCapture n c).pending = s.pending := rfl

/-! ### State.loseCapture -/

@[simp] theorem State.loseCapture_link : s.loseCapture.link = s.link := rfl
@[simp] theorem State.loseCapture_frame : s.loseCapture.frame = s.frame := rfl
@[simp] theorem State.loseCapture_tx : s.loseCapture.tx = s.tx := rfl
@[simp] theorem State.loseCapture_slots : s.loseCapture.slots = s.slots := rfl
@[simp] theorem State.loseCapture_map : s.loseCapture.map = s.map := rfl
@[simp] theorem State.loseCapture_inputs : s.loseCapture.inputs = s.inputs := rfl
@[simp] theorem State.loseCapture_outputs : s.loseCapture.outputs = s.outputs := rfl
@[simp] theorem State.loseCapture_cmd : s.loseCapture.cmd = s.cmd := rfl
@[simp] theorem State.loseCapture_arb : s.loseCapture.arb = s.arb := rfl
@[simp] theorem State.loseCapture_notices :
    s.loseCapture.notices = s.notices.raise s.cmd.params.noticeMask s.arb.item
      (.snapshotLost (min 255 (s.snaps.lost + 1))) := rfl
@[simp] theorem State.loseCapture_counters : s.loseCapture.counters = s.counters := rfl
@[simp] theorem State.loseCapture_snaps :
    s.loseCapture.snaps = { s.snaps with lost := min 255 (s.snaps.lost + 1) } := rfl
@[simp] theorem State.loseCapture_resetHeld : s.loseCapture.resetHeld = s.resetHeld := rfl
@[simp] theorem State.loseCapture_pending : s.loseCapture.pending = s.pending := rfl

end Sys2Proof.Machine
end

