-- ==== Sys2Proof/Laws/Ops.lean ====
section
/-! SUPPORT. The shared operations: for each, once, everything it can do. -/

namespace Sys2Proof.Machine

/-! ### Happenings and the frame in flight -/

/-- With the pin high a happening takes the node where its meaning says. -/
theorem happens_up {s : State} (h : s.resetHeld = false) (t : State) : happens s t = .next t := by
  simp [happens, h]

/-- While the pin is held low a happening leaves the node as it stands (R15). -/
theorem happens_held {s : State} (h : s.resetHeld = true) (t : State) : happens s t = .next s := by
  simp [happens, h]

theorem State.frameAt_eq_some {s : State} {n : Nat} {f : FrameInFlight} :
    s.frameAt n = some f ↔ s.frame = some f ∧ f.pos = n := by
  unfold State.frameAt
  cases s.frame with
  | none => simp
  | some g =>
    by_cases h : g.pos = n
    · simp [h]; rintro rfl; exact h
    · simp [h]; rintro rfl; exact h

/-- A row of a frame end, at a frame end: the whole of it where its happening comes about, nothing otherwise. -/
theorem atFrameEnd_eq {s : State} {f : FrameInFlight} (hf : s.frame = some f) (hp : f.pos = 76)
    (p : Closing → Bool) (e : FrameClose) :
    atFrameEnd p e s = if p (closeFrame f e s) then (closeFrame f e s).s else s := by
  simp [atFrameEnd, State.frameAt_eq_some.2 ⟨hf, hp⟩]

/-! ### Frame numbers (R13) -/

theorem atOrPast_iff {n f : FrameNumber} : atOrPast n f = true ↔ (n - f).toNat < 131072 :=
  decide_eq_true_iff

/-- A number is at or past itself. -/
theorem atOrPast_self (n : FrameNumber) : atOrPast n n = true := by simp [atOrPast_iff]

/-- The armed F fires exactly when the frame's number is at or past it (R70). -/
theorem MapStore.firing_eq_some {m : MapStore} {n f : FrameNumber} :
    m.firing n = some f ↔ m.commit = some f ∧ (n - f).toNat < 131072 := by
  unfold MapStore.firing
  cases m.commit with
  | none => simp
  | some g =>
    by_cases h : atOrPast n g = true
    · simp only [h, if_true, Option.some.injEq]
      exact ⟨fun e => ⟨e, e ▸ atOrPast_iff.1 h⟩, And.left⟩
    · simp only [h, if_neg, Option.some.injEq, reduceCtorEq, false_iff, not_and, Bool.false_eq_true, not_false_eq_true]
      rintro rfl hlt
      exact h (atOrPast_iff.2 hlt)

/-! ### Lists -/

/-- `modifyFirst` acts on the first element that satisfies the test and on no other. -/
theorem modifyFirst_append {α : Type} (p : α → Bool) (f : α → α) {before : List α} {x : α} (after : List α)
    (hb : ∀ y ∈ before, p y = false) (hx : p x = true) :
    modifyFirst p f (before ++ x :: after) = before ++ f x :: after := by
  induction before with
  | nil => simp [modifyFirst, hx]
  | cons y ys ih =>
    have hy := hb y (by simp)
    simp [modifyFirst, hy, ih fun z hz => hb z (by simp [hz])]

/-- `modifyFirst` leaves a list without such an element alone. -/
theorem modifyFirst_none {α : Type} (p : α → Bool) (f : α → α) {l : List α} (h : ∀ y ∈ l, p y = false) :
    modifyFirst p f l = l := by
  induction l with
  | nil => rfl
  | cons y ys ih => simp [modifyFirst, h y (by simp), ih fun z hz => h z (by simp [hz])]

@[simp] theorem modifyFirst_length {α : Type} (p : α → Bool) (f : α → α) (l : List α) :
    (modifyFirst p f l).length = l.length := by
  induction l with
  | nil => rfl
  | cons y ys ih => unfold modifyFirst; split <;> simp [ih]

/-- Under a function that `f` does not disturb, `modifyFirst` is not seen. -/
theorem modifyFirst_map {α β : Type} (p : α → Bool) (f : α → α) (g : α → β) (h : ∀ x, p x = true → g (f x) = g x)
    (l : List α) : (modifyFirst p f l).map g = l.map g := by
  induction l with
  | nil => rfl
  | cons y ys ih =>
    unfold modifyFirst
    split
    · next hp => simp [h y hp]
    · simp [ih]

/-! ### Map banks -/

theorem Bank.other_other (k : Bank) : k.other.other = k := by cases k <;> rfl

theorem Bank.other_ne (k : Bank) : k.other ≠ k := by cases k <;> decide

@[simp] theorem MapStore.bank_setBank (m : MapStore) (k : Bank) (v : MapBank) : (m.setBank k v).bank k = v := by
  cases k <;> rfl

@[simp] theorem MapStore.bank_setBank_other (m : MapStore) (k : Bank) (v : MapBank) :
    (m.setBank k.other v).bank k = m.bank k := by cases k <;> rfl

@[simp] theorem MapStore.setBank_active (m : MapStore) (k : Bank) (v : MapBank) :
    (m.setBank k v).active = m.active := by cases k <;> rfl

@[simp] theorem MapStore.setBank_commit (m : MapStore) (k : Bank) (v : MapBank) :
    (m.setBank k v).commit = m.commit := by cases k <;> rfl

@[simp] theorem MapStore.setBank_copy (m : MapStore) (k : Bank) (v : MapBank) :
    (m.setBank k v).copy = m.copy := by cases k <;> rfl

/-- At a header time with no NODE RESET behind it the map stands. -/
theorem MapStore.atHeader_eq {m : MapStore} (h : m.resetDue = false) : m.atHeader = m := by
  simp [MapStore.atHeader, h]

/-- At the header time after a NODE RESET both banks take the reset contents, bank A active (R35, R55). -/
theorem MapStore.atHeader_due {m : MapStore} (h : m.resetDue = true) : m.atHeader =
    { bankA := MapBank.allPass, bankB := MapBank.allPass, active := .a, commit := m.commit, copy := m.copy
      resetDue := false } := by
  simp [MapStore.atHeader, h]

@[simp] theorem MapStore.atHeader_commit (m : MapStore) : m.atHeader.commit = m.commit := by
  unfold MapStore.atHeader; split <;> rfl

@[simp] theorem MapStore.atHeader_copy (m : MapStore) : m.atHeader.copy = m.copy := by
  unfold MapStore.atHeader; split <;> rfl

@[simp] theorem MapStore.atHeader_resetDue (m : MapStore) : m.atHeader.resetDue = false := by
  unfold MapStore.atHeader; split <;> simp_all

@[simp] theorem MapStore.nodeReset_bank (m : MapStore) (k : Bank) : m.nodeReset.bank k = m.bank k := by cases k <;> rfl
@[simp] theorem MapStore.nodeReset_active (m : MapStore) : m.nodeReset.active = m.active := rfl
@[simp] theorem MapStore.nodeReset_commit (m : MapStore) : m.nodeReset.commit = none := rfl
@[simp] theorem MapStore.nodeReset_copy (m : MapStore) : m.nodeReset.copy = none := rfl
@[simp] theorem MapStore.nodeReset_resetDue (m : MapStore) : m.nodeReset.resetDue = true := rfl

@[simp] theorem MapStore.setBank_resetDue (m : MapStore) (k : Bank) (v : MapBank) :
    (m.setBank k v).resetDue = m.resetDue := by cases k <;> rfl

/-- A code field names exactly the command that the node reads from it (R4). -/
theorem codeNames_iff {w : Word} {name : Option CommandName} : CodeNames w name ↔ name = commandName w := by
  cases name with
  | none => exact commandOfCode_eq_none.symm.trans eq_comm
  | some n => exact commandOfCode_eq_some.symm.trans eq_comm

/-- A bank names an output channel by one of its TAP or DRAIN entries (section 5.2). -/
theorem namesOutput_iff {v : MapBank} {c : Channel} : namesOutput v c = true ↔ Names v c := by
  simp only [namesOutput, Names, List.any_eq_true, Vector.mem_toList_iff, Vector.mem_iff_getElem, Bool.and_eq_true,
    beq_iff_eq]
  constructor
  · rintro ⟨e, ⟨i, hi, rfl⟩, h⟩; exact ⟨⟨i, hi⟩, h⟩
  · rintro ⟨i, h⟩; exact ⟨_, ⟨i.val, i.isLt, rfl⟩, h⟩

/-- The node finds a conflict exactly where there is one (R68). -/
theorem conflictPair_eq_none {v : MapBank} : conflictPair v = none ↔ ∀ i j, ¬Conflict v i j := by
  simp [conflictPair, Conflict, MapEntry.conflicts, List.findSome?_eq_none_iff]

/-- A conflict found is one, and it is the lowest slot in conflict with the lowest slot above it (R68). -/
theorem conflict_of_conflictPair {v : MapBank} {i j : SlotNumber} (h : conflictPair v = some (i, j)) :
    Conflict v i j := by
  obtain ⟨k, -, hk⟩ := List.exists_of_findSome?_eq_some h
  obtain ⟨l, hl, he⟩ := Option.map_eq_some_iff.1 hk
  obtain ⟨rfl, rfl⟩ : k = i ∧ l = j := by simpa using he
  have := List.find?_some hl
  simpa [Conflict, MapEntry.conflicts, and_assoc] using this

/-- A bank without conflict is free of conflicts in the sense of R36. -/
theorem conflictFree_of_conflictPair {v : MapBank} (h : conflictPair v = none) : ConflictFree v := by
  intro i j hij hi hj hc
  rcases lt_or_gt_of_ne hij with hlt | hlt
  · exact conflictPair_eq_none.1 h i j ⟨hlt, hi, hj, hc⟩
  · exact conflictPair_eq_none.1 h j i ⟨hlt, hj, hi, hc.symm⟩

/-! ### Notices -/

/-- Folding keeps the kind of the record when the notice has it. -/
theorem NoticeRecord.kind_fold (w : Bool) (q : SequenceNumber) (n : Notice) (r : NoticeRecord) :
    (r.fold w q n).kind = n.kind := by
  unfold NoticeRecord.fold; cases r.state <;> rfl

theorem NoticeQueue.find?_none {q : NoticeQueue} {k : NoticeKind} (h : ∀ x ∈ q.records, x.kind ≠ k) :
    q.records.find? (fun r => r.kind == k) = none := by
  simpa using h

theorem NoticeQueue.find?_first {q : NoticeQueue} {k : NoticeKind} {before after : List NoticeRecord}
    {r : NoticeRecord} (hq : q.records = before ++ r :: after) (hr : r.kind = k) (hb : ∀ x ∈ before, x.kind ≠ k) :
    q.records.find? (fun r => r.kind == k) = some r := by
  rw [hq, List.find?_append, List.find?_eq_none.2 (by simpa using hb)]
  simp [hr]

/-! ### Words of the frame in flight -/

theorem crcWords_append (r : Word) (a b : List Word) : crcWords r (a ++ b) = crcWords (crcWords r a) b := by
  simp [crcWords]

@[simp] theorem FrameInFlight.pass_pos (f : FrameInFlight) (rx out : List Word) :
    (f.pass rx out).pos = f.pos + out.length := rfl
@[simp] theorem FrameInFlight.pass_regenerated (f : FrameInFlight) (rx out : List Word) :
    (f.pass rx out).regenerated = f.regenerated := rfl
@[simp] theorem FrameInFlight.pass_number (f : FrameInFlight) (rx out : List Word) :
    (f.pass rx out).number = f.number := rfl
@[simp] theorem FrameInFlight.pass_header (f : FrameInFlight) (rx out : List Word) :
    (f.pass rx out).header = f.header := rfl
@[simp] theorem FrameInFlight.pass_bank (f : FrameInFlight) (rx out : List Word) :
    (f.pass rx out).bank = f.bank := rfl
@[simp] theorem FrameInFlight.pass_txCrc (f : FrameInFlight) (rx out : List Word) :
    (f.pass rx out).txCrc = crcWords f.txCrc out := rfl

/-! ### Amounts -/

/-- A masked sum over a row is the sum over the classes or channels whose mask bits are 1 (R138). -/
theorem maskedSum_eq (mask : BitVec 8) (row : Vector Nat 8) :
    maskedSum mask row = ∑ c : Fin 8, if mask.getLsbD c.val then row[c] else 0 := by
  rw [maskedSum, ← List.sum_toFinset _ (List.nodup_finRange 8)]
  rfl

/-- One amount of a table rises and every other stands. -/
theorem AmountTable.get_add {k : Nat} (t : AmountTable k) (row r : Fin k) (c d : Fin 8) (n : Nat) :
    (AmountTable.add t row c n)[r][d] = if r = row ∧ d = c then t[r][d] + n else t[r][d] := by
  unfold AmountTable.add
  by_cases hr : r = row
  · subst hr
    by_cases hd : d = c
    · subst hd; simp
    · have : c.val ≠ d.val := fun h => hd (Fin.ext h.symm)
      simp [hd, this]
  · have : row.val ≠ r.val := fun h => hr (Fin.ext h.symm)
    simp [hr, this]

/-- Handing in one node source's amount leaves the others. -/
theorem FrameAmounts.node_putNode (a : FrameAmounts) (src x : NodeSource) (n : Nat) :
    (a.putNode src n).node[x.row] = if x = src then n else a.node[x.row] := by
  by_cases h : x = src
  · subst h; simp [FrameAmounts.putNode]
  · have : src.row.val ≠ x.row.val := by
      intro he; apply h; revert he; cases src <;> cases x <;> decide
    simp [FrameAmounts.putNode, h, this]

@[simp] theorem FrameAmounts.slot_putNode (a : FrameAmounts) (src : NodeSource) (n : Nat) :
    (a.putNode src n).slot = a.slot := rfl
@[simp] theorem FrameAmounts.channel_putNode (a : FrameAmounts) (src : NodeSource) (n : Nat) :
    (a.putNode src n).channel = a.channel := rfl

/-! ### Captures (R154 to R158) -/

/-- What a frame end's capture step does: nothing, a capture or a loss, and the sync-loss mark is clear after it. -/
theorem State.captureStep_cases (s : State) (n : FrameNumber) (c : Causes) :
    (c.any = false ∧ s.captureStep n c = { s with snaps := { s.snaps with syncLossMark := false } })
      ∨ (c.any = true ∧ s.snaps.queue.length < 4 ∧ s.captureStep n c =
          { s.makeCapture n c with snaps := { (s.makeCapture n c).snaps with syncLossMark := false } })
      ∨ (c.any = true ∧ 4 ≤ s.snaps.queue.length ∧ s.captureStep n c =
          { s.loseCapture with snaps := { s.loseCapture.snaps with syncLossMark := false } }) := by
  unfold State.captureStep SnapshotUnit.outcome
  by_cases h : c.any = true
  · by_cases hq : s.snaps.queue.length < 4
    · refine .inr (.inl ⟨h, hq, ?_⟩); simp [h, hq, Config.snapshotPlaces]
    · refine .inr (.inr ⟨h, by omega, ?_⟩); simp [h, hq, Config.snapshotPlaces]
  · refine .inl ⟨by simpa using h, ?_⟩; simp [h]

end Sys2Proof.Machine
end

