-- ==== Sys2Proof/Laws/Commands.lean ====
section
/-! SUPPORT. The commands' shared operations: the checks, the entries written and read, the parameter table. -/

namespace Sys2Proof.Machine

/-! ### Checks (R57, R102) -/

theorem require_eq_none {b : Bool} {st : Status} {rest : Option Turned} :
    require b st rest = none ↔ b = true ∧ rest = none := by
  unfold require; cases b <;> simp

theorem require_false (st : Status) (rest : Option Turned) : require false st rest = some (st, []) := rfl

theorem require_true (st : Status) (rest : Option Turned) : require true st rest = rest := rfl

/-! ### Entries (R59, R61) -/

/-- A bank after entries are written from slot `i` on: the entries there, and every other slot as it stood. -/
theorem writeFrom_get (v : MapBank) (i : Nat) (es : List MapEntry) (j : SlotNumber) :
    (writeFrom v i es)[j] = if h : i ≤ j.val ∧ j.val - i < es.length then es[j.val - i] else v[j] := by
  induction es generalizing v i with
  | nil => simp [writeFrom]
  | cons e es ih =>
    rw [writeFrom, ih]
    by_cases h1 : j.val = i
    · subst h1; simp
    · by_cases h2 : i + 1 ≤ j.val
      · have : j.val - i = j.val - (i + 1) + 1 := by omega
        by_cases h3 : j.val - (i + 1) < es.length
        · simp [this, h3, show i ≤ j.val by omega, h2]
        · simp [this, h3, Ne.symm h1]
      · simp [show ¬i ≤ j.val by omega, h2, Ne.symm h1]

/-- The entries of a list of forms: one for each, in order, each the form bit for bit; none if one is no entry. -/
theorem decodeEntries_eq_some {bs : List (BitVec 16)} {es : List MapEntry} (h : decodeEntries bs = some es) :
    es.map MapEntry.bits = bs := by
  induction bs generalizing es with
  | nil => simp only [decodeEntries, Option.some.injEq] at h; subst h; rfl
  | cons b rest ih =>
    unfold decodeEntries at h
    split at h
    · next e es' h1 h2 => cases h; simp [MapEntry.bits_of_ofBits h1, ih h2]
    · cases h

theorem decodeEntries_isSome {bs : List (BitVec 16)} :
    (decodeEntries bs).isSome = true ↔ ∀ b ∈ bs, b.extractLsb' 13 3 ≠ 7 := by
  induction bs with
  | nil => simp [decodeEntries]
  | cons b rest ih =>
    rw [List.forall_mem_cons, ← ih, decodeEntries]
    cases hb : MapEntry.ofBits b with
    | none => simp [MapEntry.ofBits_eq_none.1 hb]
    | some e =>
      have : b.extractLsb' 13 3 ≠ 7 := fun h => by simp [MapEntry.ofBits_eq_none.2 h] at hb
      cases hr : decodeEntries rest with
      | none => simp
      | some es => simpa using this

/-- Entries sent two to a word take half as many words, rounded up (R62). -/
theorem packEntries_length (es : List MapEntry) : (packEntries es).length = (es.length + 1) / 2 := by
  induction es using packEntries.induct with
  | case1 => rfl
  | case2 e => simp [packEntries]
  | case3 e f rest ih => simp [packEntries, ih]; omega

/-! ### Parameters (R112) -/

/-- The ids of the parameter table. -/
theorem paramOf_holdLimit (w : Word) (c : Channel) (h : w.toNat = c.val + 8) : paramOf w = some (.holdLimit c) := by
  have hc := c.isLt
  have h0 : ∀ k : Nat, k < 8 → w ≠ BitVec.ofNat 32 k := by
    rintro k hk rfl; rw [BitVec.toNat_ofNat, Nat.mod_eq_of_lt (by omega)] at h; omega
  simp [paramOf, h0 0, h0 1, h0 2, h0 3, h0 4, h, show c.val + 8 - 8 = c.val by omega, hc]

theorem paramOf_safeValue (w : Word) (c : Channel) (h : w.toNat = c.val + 16) : paramOf w = some (.safeValue c) := by
  have hc := c.isLt
  have h0 : ∀ k : Nat, k < 8 → w ≠ BitVec.ofNat 32 k := by
    rintro k hk rfl; rw [BitVec.toNat_ofNat, Nat.mod_eq_of_lt (by omega)] at h; omega
  simp [paramOf, h0 0, h0 1, h0 2, h0 3, h0 4, h, hc]

/-! ### Counters -/

/-- A counter index word names the counter of its value, 0 to 15. -/
theorem counterOf_eq_some {w : Word} {i : CounterIndex} : counterOf w = some i ↔ w.toNat = i.val := by
  unfold counterOf
  split
  · simp [Fin.ext_iff]
  · next h => simp; have := i.isLt; omega

theorem counterOf_isSome {w : Word} : (counterOf w).isSome = true ↔ w.toNat ≤ 15 := by
  unfold counterOf; split <;> simp <;> omega

end Sys2Proof.Machine
end

