-- ==== Sys2Proof/Laws/FrameEnd.lean ====
section
/-! SUPPORT. The frame end: which blocks its works reach, and which they leave, whatever their order. -/

namespace Sys2Proof.Machine

/-! ### The order of the works that may meet (assumption 4) -/

theorem mem_keepFirst {seen l : List EndItem} {i : EndItem} : i ∈ keepFirst seen l ↔ i ∈ l ∧ i ∉ seen := by
  induction l generalizing seen with
  | nil => simp [keepFirst]
  | cons j rest ih =>
    unfold keepFirst
    split
    · next h =>
      have hj : j ∈ seen := by simpa using h
      rw [ih, List.mem_cons]
      constructor
      · rintro ⟨h1, h2⟩; exact ⟨.inr h1, h2⟩
      · rintro ⟨rfl | h1, h2⟩
        · exact absurd hj h2
        · exact ⟨h1, h2⟩
    · next h =>
      have hj : j ∉ seen := by simpa using h
      by_cases hi : i = j
      · subst hi; simp [hj]
      · simp [ih, hi]

theorem keepFirst_nodup (seen l : List EndItem) : (keepFirst seen l).Nodup := by
  induction l generalizing seen with
  | nil => simp [keepFirst]
  | cons j rest ih =>
    unfold keepFirst
    split
    · exact ih seen
    · exact List.nodup_cons.2 ⟨by simp [mem_keepFirst], ih _⟩

/-- Placing the resend step moves it and nothing else. -/
theorem placeResend_perm {l : List EndItem} (hn : l.Nodup) (hr : EndItem.resend ∈ l) : (placeResend l).Perm l := by
  induction l with
  | nil => simp at hr
  | cons i rest ih =>
    obtain ⟨hi, hn'⟩ := List.nodup_cons.1 hn
    unfold placeResend
    split
    · exact .refl _
    · next h =>
      have hr' : EndItem.resend ∈ rest := by
        rcases List.mem_cons.1 hr with rfl | h'
        · simp at h
        · exact h'
      split
      · have : rest.Perm (EndItem.resend :: rest.filter (· != .resend)) := by
          have he : rest.filter (· != .resend) = rest.erase .resend := by
            rw [List.Nodup.erase_eq_filter hn']
          rw [he]
          exact List.perm_cons_erase hr'
        exact (List.Perm.swap _ _ _).trans (this.symm.cons i)
      · exact (ih hn' hr').cons i

/-- Every work is done once, in whatever order the frame end names. -/
theorem endItems_perm (e : FrameClose) : (endItems e).Perm standardOrder := by
  have hk : (keepFirst [] (e.order ++ standardOrder)).Perm standardOrder := by
    rw [List.perm_ext_iff_of_nodup (keepFirst_nodup _ _) (by decide)]
    intro i
    have : i ∈ standardOrder := by cases i <;> decide
    simp [mem_keepFirst, this]
  exact (placeResend_perm (keepFirst_nodup _ _) (hk.mem_iff.2 (by decide))).trans hk

/-- Every work stands once in the order. -/
theorem mem_endItems (e : FrameClose) (i : EndItem) : i ∈ endItems e :=
  (endItems_perm e).mem_iff.2 (by cases i <;> decide)

theorem endItems_nodup (e : FrameClose) : (endItems e).Nodup := (endItems_perm e).nodup_iff.2 (by decide)

/-! ### What the works that may meet leave alone -/

/-- `w` and `v` agree in all that the works that may meet leave alone: they reach the response record and the command
amounts, the item written, the notices and the running copy, and nothing else. -/
structure Closing.SameElsewhere (w v : Closing) : Prop where
  link : v.s.link = w.s.link
  frameNow : v.s.frame = w.s.frame
  tx : v.s.tx = w.s.tx
  slots : v.s.slots = w.s.slots
  banks : v.s.map.bankA = w.s.map.bankA ∧ v.s.map.bankB = w.s.map.bankB ∧ v.s.map.active = w.s.map.active
    ∧ v.s.map.commit = w.s.map.commit
  inputs : v.s.inputs = w.s.inputs
  address : v.s.cmd.address = w.s.cmd.address
  outputs : v.s.outputs = w.s.outputs
  gap : v.s.arb.gap = w.s.arb.gap
  region : v.s.arb.written = w.s.arb.written ∧ v.s.arb.denied = w.s.arb.denied
  counters : v.s.counters = w.s.counters
  snaps : v.s.snaps = w.s.snaps
  host : v.s.resetHeld = w.s.resetHeld ∧ v.s.pending = w.s.pending
  held : v.s.cmd.inFlight = w.s.cmd.inFlight
  closing : v.frame = w.frame ∧ v.outcome = w.outcome ∧ v.expired = w.expired ∧ v.gapRanOut = w.gapRanOut
    ∧ v.fired = w.fired ∧ v.wrapped = w.wrapped ∧ v.snapshotFirst = w.snapshotFirst

theorem Closing.SameElsewhere.refl (w : Closing) : w.SameElsewhere w := by
  constructor <;> simp

theorem Closing.SameElsewhere.trans {u v w : Closing} (h : u.SameElsewhere v) (k : v.SameElsewhere w) :
    u.SameElsewhere w where
  link := k.link.trans h.link
  frameNow := k.frameNow.trans h.frameNow
  tx := k.tx.trans h.tx
  slots := k.slots.trans h.slots
  banks := by obtain ⟨a, b, c, d⟩ := h.banks; rw [← a, ← b, ← c, ← d]; exact k.banks
  inputs := k.inputs.trans h.inputs
  address := k.address.trans h.address
  outputs := k.outputs.trans h.outputs
  gap := k.gap.trans h.gap
  region := by obtain ⟨a, b⟩ := h.region; rw [← a, ← b]; exact k.region
  counters := k.counters.trans h.counters
  snaps := k.snaps.trans h.snaps
  host := by obtain ⟨a, b⟩ := h.host; rw [← a, ← b]; exact k.host
  held := k.held.trans h.held
  closing := by obtain ⟨a, b, c, d, e, f, g⟩ := h.closing; rw [← a, ← b, ← c, ← d, ← e, ← f, ← g]; exact k.closing

theorem Closing.resend_same (w : Closing) : w.SameElsewhere w.resend := by
  constructor <;> simp [Closing.resend]

theorem Closing.delivery_same (w : Closing) : w.SameElsewhere w.delivery := by
  unfold Closing.delivery State.settleItem
  split
  · exact .refl w
  · constructor <;> simp
  · split
    · split <;> constructor <;> simp
    all_goals constructor <;> simp

theorem Closing.jumpRaise_same (w : Closing) : w.SameElsewhere w.jumpRaise := by
  unfold Closing.jumpRaise
  split
  · constructor <;> simp
  · exact .refl w

theorem Closing.expiryRaise_same (w : Closing) : w.SameElsewhere w.expiryRaise := by
  unfold Closing.expiryRaise
  split
  · exact .refl w
  · constructor <;> simp

theorem Closing.copyCompletion_same (w : Closing) : w.SameElsewhere w.copyCompletion := by
  unfold Closing.copyCompletion
  split
  · constructor <;> simp
  · exact .refl w

/-- Where a SET PARAMETER of NOTICE_MASK meets the other works, it reaches the parameters and the notices. -/
theorem meetParameter_eq (r : Request) (b : Bool) (s : State) :
    ∃ p n, meetParameter r b s = { s with cmd := { s.cmd with params := p }, notices := n } := by
  unfold meetParameter
  split
  · next h =>
    unfold doSetParameter
    rw [h.1]
    dsimp only
    split
    · exact ⟨s.cmd.params, s.notices, rfl⟩
    · exact ⟨_, _, rfl⟩
  · exact ⟨s.cmd.params, s.notices, rfl⟩

/-- What an accepted command reaches where it meets the other works. -/
theorem meetCommand_eq (n : CommandName) (r : Request) (b : Bool) (s : State) :
    ∃ p x k c, meetCommand n r b s =
      { s with cmd := { s.cmd with params := p, response := x }, notices := k, map := { s.map with copy := c } } := by
  have same : ∃ p x k c, s =
      { s with cmd := { s.cmd with params := p, response := x }, notices := k, map := { s.map with copy := c } } :=
    ⟨s.cmd.params, s.cmd.response, s.notices, s.map.copy, rfl⟩
  cases n
  case acknowledgeNotice => exact ⟨_, _, _, _, rfl⟩
  case nodeReset =>
    unfold meetCommand
    dsimp only
    split
    · exact ⟨_, _, _, _, rfl⟩
    · exact same
  case setParameter =>
    obtain ⟨p, k, h⟩ := meetParameter_eq r b s
    exact ⟨p, s.cmd.response, k, s.map.copy, h⟩
  all_goals exact same

theorem Closing.execute_same (w : Closing) (r : Request) : w.SameElsewhere (w.execute r) := by
  unfold Closing.execute
  split
  · next r' n _ =>
    obtain ⟨p, x, k, c, h⟩ := meetCommand_eq n r' w.snapshotFirst w.s
    constructor <;> simp [h]
  · constructor <;> simp
  · exact .refl w

theorem Closing.takeUnicast_same (w : Closing) (r : Request) : w.SameElsewhere (w.takeUnicast r) := by
  unfold Closing.takeUnicast
  split
  · exact .refl w
  · constructor <;> simp
  · constructor <;> simp
  · exact w.execute_same r

theorem Closing.takeClaimed_same (w : Closing) (r : Request) : w.SameElsewhere (w.takeClaimed r) := by
  unfold Closing.takeClaimed
  split
  · constructor <;> simp
  · exact w.takeUnicast_same r

theorem Closing.takeBroadcast_same (w : Closing) (r : Request) : w.SameElsewhere (w.takeBroadcast r) := by
  unfold Closing.takeBroadcast
  split
  · exact .refl w
  · split
    · split
      · refine .trans ?_ (Closing.execute_same _ r)
        constructor <;> simp
      · constructor <;> simp
    · constructor <;> simp

theorem Closing.command_same (w : Closing) : w.SameElsewhere w.command := by
  unfold Closing.command
  split
  · next r _ =>
    split
    · exact w.takeUnicast_same r
    · exact w.takeClaimed_same r
    · exact w.takeBroadcast_same r
    · exact .refl w
  · exact .refl w

theorem Closing.item_same (w : Closing) (i : EndItem) : w.SameElsewhere (w.item i) := by
  cases i
  · exact w.resend_same
  · exact w.delivery_same
  · exact w.jumpRaise_same
  · exact w.expiryRaise_same
  · exact w.copyCompletion_same
  · exact w.command_same

/-- The works that may meet, in any order, leave the other blocks alone. -/
theorem Closing.meet_same (w : Closing) (items : List EndItem) : w.SameElsewhere (w.meet items) := by
  unfold Closing.meet
  induction items generalizing w with
  | nil => exact .refl w
  | cons i rest ih => exact (w.item_same i).trans (ih _)

/-! ### From the frame's close to the works that may meet -/

/-- The frame end up to the works that may meet: what stands in each block then. -/
theorem Closing.begin_state (f : FrameInFlight) (e : FrameClose) (s : State) :
    (Closing.begin f e s).s.link = s.link.frameEnd f (f.outcome e.check)
      ∧ (Closing.begin f e s).s.frame = none
      ∧ (Closing.begin f e s).s.tx = (s.closeLine f e.check).tx
      ∧ (Closing.begin f e s).s.slots = SlotEngine.empty
      ∧ (Closing.begin f e s).s.map = s.map
      ∧ (Closing.begin f e s).s.cmd = s.cmd
      ∧ (Closing.begin f e s).s.notices = s.notices
      ∧ (Closing.begin f e s).s.counters.bank = s.counters.bank
      ∧ (Closing.begin f e s).s.counters.gate = s.counters.gate
      ∧ (Closing.begin f e s).s.resetHeld = s.resetHeld ∧ (Closing.begin f e s).s.pending = s.pending
      ∧ (Closing.begin f e s).s.arb = { s.arb with
          gap := if s.arb.item == .none then s.arb.gap - 1 else s.cmd.params.courtesyGap }
      ∧ (Closing.begin f e s).frame = f ∧ (Closing.begin f e s).outcome = f.outcome e.check
      ∧ (Closing.begin f e s).taking = .nothing ∧ (Closing.begin f e s).snapshotFirst = e.snapshotFirst := by
  unfold Closing.begin Closing.schedule
  split <;> simp [Closing.gap, Closing.samples, Closing.link]

/-- The scheduled test alone moves the Snapshot Unit there: a trigger that fires becomes IDLE (R155). -/
theorem Closing.begin_snaps (f : FrameInFlight) (e : FrameClose) (s : State) :
    (Closing.begin f e s).fired = s.snaps.firesAt f.number
      ∧ (Closing.begin f e s).s.snaps
        = if s.snaps.firesAt f.number then { s.snaps with scheduled := none } else s.snaps := by
  unfold Closing.begin Closing.schedule
  split
  · next h => simp_all [Closing.gap, Closing.samples, Closing.link]
  · next h => simp_all [Closing.gap, Closing.samples, Closing.link]

/-- The channels there: freshness, application, ageing and expiry done (R79, R84, R85). -/
theorem Closing.begin_channels (f : FrameInFlight) (e : FrameClose) (s : State) (c : Channel) :
    (Closing.begin f e s).s.inputs[c] = s.inputs[c].frameEnd
      ∧ (Closing.begin f e s).s.outputs[c] = s.outputs[c].frameEnd
          (tapFor (if f.outcome e.check == .good then s.slots.staged else []) c) s.cmd.params.holdLimit[c] := by
  unfold Closing.begin Closing.schedule
  split <;> simp [Closing.gap, Closing.samples, Closing.link, Closing.taps]

/-! ### Counting, capture and execution -/

/-- A SET PARAMETER that acts before the capture changes a hold limit, the outputs and the notices at most (R86). -/
theorem limitBeforeCapture_eq (r : Request) (s : State) :
    ∃ l o n, limitBeforeCapture r s =
      { s with cmd := { s.cmd with params := { s.cmd.params with holdLimit := l } }, outputs := o, notices := n } := by
  have same : ∃ l o n, s =
      { s with cmd := { s.cmd with params := { s.cmd.params with holdLimit := l } }, outputs := o, notices := n } :=
    ⟨s.cmd.params.holdLimit, s.outputs, s.notices, rfl⟩
  unfold limitBeforeCapture
  cases hp : paramOf r.p0 with
  | none => exact same
  | some p =>
    cases p with
    | holdLimit c =>
      simp only [Option.any_some, ParamId.isHoldLimit, if_true, doSetParameter, hp]
      split
      · exact same
      · unfold State.paramChanged State.limitLowered
        dsimp only
        split
        · exact ⟨_, _, _, rfl⟩
        · exact ⟨_, s.outputs, s.notices, rfl⟩
    | courtesyGap | flywheelLimit | noticeResend | noticeMask | snapOnSyncLoss | safeValue _ => exact same

/-- What the command does before the capture: nothing, or what a new hold limit does. -/
theorem Closing.beforeCapture_eq (w : Closing) :
    ∃ l o n, w.beforeCapture = { w with s := { w.s with
      cmd := { w.s.cmd with params := { w.s.cmd.params with holdLimit := l } }, outputs := o, notices := n } } := by
  have same : ∃ l o n, w = { w with s := { w.s with
      cmd := { w.s.cmd with params := { w.s.cmd.params with holdLimit := l } }, outputs := o, notices := n } } :=
    ⟨w.s.cmd.params.holdLimit, w.s.outputs, w.s.notices, rfl⟩
  unfold Closing.beforeCapture
  split
  · exact same
  · unfold Taking.beforeCapture
    split
    · next r _ => obtain ⟨l, o, n, h⟩ := limitBeforeCapture_eq r w.s; exact ⟨l, o, n, by rw [h]⟩
    · exact same

/-- It changes none of the triggers, so the capture is the same (R154). -/
theorem Closing.beforeCapture_capture (w : Closing) : w.beforeCapture.capture = w.capture := by
  obtain ⟨l, o, n, h⟩ := w.beforeCapture_eq
  rw [h]; rfl

/-- The blocks that counting and capture leave alone. -/
theorem Closing.count_state (w : Closing) :
    w.count.s.link = w.s.link ∧ w.count.s.frame = w.s.frame ∧ w.count.s.tx = w.s.tx ∧ w.count.s.slots = w.s.slots
      ∧ w.count.s.map = w.s.map ∧ w.count.s.inputs = w.s.inputs ∧ w.count.s.outputs = w.s.outputs
      ∧ w.count.s.cmd = w.s.cmd ∧ w.count.s.arb = w.s.arb
      ∧ w.count.s.resetHeld = w.s.resetHeld ∧ w.count.s.pending = w.s.pending
      ∧ w.count.s.snaps.scheduled = w.s.snaps.scheduled ∧ w.count.s.snaps.syncLossMark = false := by
  unfold Closing.count
  rcases State.captureStep_cases { w.s with counters := w.s.counters.evaluate } w.frame.number
    (w.causes w.s.counters) with ⟨-, h⟩ | ⟨-, -, h⟩ | ⟨-, -, h⟩ <;> simp [h]

/-- What a SET PARAMETER leaves alone. -/
theorem doSetParameter_eq (r : Request) (s : State) :
    ∃ p o n, (doSetParameter r s).1 = { s with cmd := { s.cmd with params := p }, outputs := o, notices := n } := by
  unfold doSetParameter
  split
  · next p _ =>
    dsimp only
    split
    · exact ⟨s.cmd.params, s.outputs, s.notices, rfl⟩
    · cases p
      case noticeMask => exact ⟨_, s.outputs, _, rfl⟩
      case holdLimit c =>
        unfold State.paramChanged State.limitLowered
        dsimp only
        split
        · exact ⟨_, _, _, rfl⟩
        · exact ⟨_, s.outputs, s.notices, rfl⟩
      all_goals exact ⟨_, s.outputs, s.notices, rfl⟩
  · exact ⟨s.cmd.params, s.outputs, s.notices, rfl⟩

/-- No command reaches the Link Receiver, the line, the frame, the pin or the queue of happenings. -/
theorem doCommand_host (n : CommandName) (r : Request) (k : Capture) (s : State) :
    (doCommand n r k s).1.link = s.link ∧ (doCommand n r k s).1.frame = s.frame ∧ (doCommand n r k s).1.tx = s.tx
      ∧ (doCommand n r k s).1.resetHeld = s.resetHeld ∧ (doCommand n r k s).1.pending = s.pending := by
  cases n
  case setParameter => obtain ⟨p, o, q, h⟩ := doSetParameter_eq r s; simp [doCommand, h]
  case nodeReset => simp [doCommand, doNodeReset]
  case getParameter => unfold doCommand doGetParameter; dsimp only; split <;> simp
  case writeEntries => unfold doCommand doWriteEntries; dsimp only; split <;> simp
  case setCounter => unfold doCommand doSetCounter; dsimp only; split <;> simp
  case getCounterControl => unfold doCommand doGetCounterControl; dsimp only; split <;> simp
  case takeSnapshot => unfold doCommand doTakeSnapshot; dsimp only; split <;> simp
  case readSnapshot => unfold doCommand doReadSnapshot; dsimp only; split <;> simp
  all_goals
    simp [doCommand, doAssignAddress, doReadEntries, doCopyActive, doCommit, doCancelCommit, doReadCounters,
      doClearCounters, doGate, doCancelSnapshot, doReleaseSnapshot]

theorem State.answer_eq (s : State) (r : Request) (x : ResponseRecord) :
    ∃ y, s.answer r x = { s with cmd := { s.cmd with response := y } } := by
  unfold State.answer
  split
  · exact ⟨x, rfl⟩
  · exact ⟨x, rfl⟩
  · exact ⟨s.cmd.response, rfl⟩
  · exact ⟨s.cmd.response, rfl⟩

/-- Neither does the execution of the command that a frame end takes. -/
theorem Taking.run_host (t : Taking) (k : Capture) (s : State) :
    (t.run k s).link = s.link ∧ (t.run k s).frame = s.frame ∧ (t.run k s).tx = s.tx
      ∧ (t.run k s).resetHeld = s.resetHeld ∧ (t.run k s).pending = s.pending := by
  cases t with
  | nothing => exact ⟨rfl, rfl, rfl, rfl, rfl⟩
  | turned r t =>
    obtain ⟨y, h⟩ := s.answer_eq r (.unsent { seq := r.seq, tag := r.tag, status := t.1, data := t.2 })
    simp [Taking.run, h]
  | accepted r n =>
    obtain ⟨y, h⟩ := (doCommand n r k s).1.answer_eq r (okAnswer n r (doCommand n r k s).2)
    have := doCommand_host n r k s
    simp only [Taking.run, h]
    exact this

/-- Counter `i` after evaluation (R140). -/
theorem CounterBank.evaluate_get (b : CounterBank) (i : CounterIndex) :
    b.evaluate.bank[i]
      = if b.evaluates i then b.bank[i].evaluate (b.frame.amount b.bank[i].control) else b.bank[i] := by
  simp [CounterBank.evaluate]

/-- Counter `i` after clear-on-capture (R151). -/
theorem CounterBank.captured_get (b : CounterBank) (i : CounterIndex) : b.captured.bank[i] = b.bank[i].captured := by
  simp [CounterBank.captured]

end Sys2Proof.Machine
end

