-- ==== Sys2Proof/Laws/Step.lean ====
section
/-! SUPPORT. The rows of a frame end as one: every one of them is the frame end, or leaves the node as it stands. -/

namespace Sys2Proof.Machine

/-- Every row of a frame end is the frame end under a condition on what it brings. -/
theorem exec_of_close {i : Instr} {e : FrameClose} (h : i.close? = some e) (s : State) :
    ∃ p : Closing → Bool, exec i s = happens s (atFrameEnd p e s) := by
  cases i <;> simp only [Instr.close?, Option.some.injEq, reduceCtorEq] at h <;> subst h <;> exact ⟨_, rfl⟩

/-- Where a row of a frame end goes: nowhere, or to the end of the frame in flight, all of whose words have passed. -/
theorem exec_close_cases {i : Instr} {e : FrameClose} {s t : State} (h : i.close? = some e)
    (ht : exec i s = .next t) :
    t = s ∨ ∃ f, s.resetHeld = false ∧ s.frame = some f ∧ f.pos = 76 ∧ t = (closeFrame f e s).s := by
  obtain ⟨p, hp⟩ := exec_of_close h s
  rw [hp] at ht
  by_cases hr : s.resetHeld = true
  · rw [happens_held hr] at ht; cases ht; exact .inl rfl
  · have hr' : s.resetHeld = false := by simpa using hr
    rw [happens_up hr'] at ht
    cases ht
    cases hf : s.frameAt 76 with
    | none => left; simp [atFrameEnd, hf]
    | some f =>
      obtain ⟨h1, h2⟩ := State.frameAt_eq_some.1 hf
      rw [atFrameEnd_eq h1 h2]
      split
      · exact .inr ⟨f, hr', h1, h2, rfl⟩
      · exact .inl rfl

/-- The whole frame end keeps the pin and the queue of happenings, ends the frame, and updates the Link Receiver
(R23, R32, R33). -/
theorem closeFrame_host (f : FrameInFlight) (e : FrameClose) (s : State) :
    (closeFrame f e s).s.resetHeld = s.resetHeld ∧ (closeFrame f e s).s.pending = s.pending
      ∧ (closeFrame f e s).s.frame = none ∧ (closeFrame f e s).s.link = s.link.frameEnd f (f.outcome e.check)
      ∧ (closeFrame f e s).s.tx = (s.closeLine f e.check).tx := by
  have hb := Closing.begin_state f e s
  have hm := (Closing.begin f e s).meet_same (endItems e)
  have hc := Closing.count_state (Closing.settled f e s).beforeCapture
  have hr := Taking.run_host (Closing.settled f e s).taking (Closing.settled f e s).capture
    (Closing.settled f e s).beforeCapture.count.s
  obtain ⟨l, o, n, hq⟩ := (Closing.settled f e s).beforeCapture_eq
  unfold closeFrame
  dsimp only
  obtain ⟨r1, r2, r3, r4, r5⟩ := hr
  obtain ⟨c1, c2, c3, -, -, -, -, -, -, c4, c5, -, -⟩ := hc
  rw [hq] at c1 c2 c3 c4 c5 r1 r2 r3 r4 r5 ⊢
  obtain ⟨b1, b2, b3, -, -, -, -, -, -, b4, b5, -⟩ := hb
  refine ⟨?_, ?_, ?_, ?_, ?_⟩
  · rw [r4, c4]; exact hm.host.1.trans b4
  · rw [r5, c5]; exact hm.host.2.trans b5
  · rw [r2, c2]; exact hm.frameNow.trans b2
  · rw [r1, c1]; exact hm.link.trans b1
  · rw [r3, c3]; exact hm.tx.trans b3

end Sys2Proof.Machine
end

