-- ==== Sys2Proof/Tests/Slice0.lean ====
section
/-! SUPPORT. Tests on one happening each: the refusals of WellFormed, results the manual's tables and examples state,
and for every statement for the provers a state and operands that meet its hypotheses, clause by clause. -/

open Sys2Proof Sys2Proof.Machine

namespace Sys2Proof.Tests

/-! ### Small states -/

/-- A forwarded frame of number 5 whose words have all passed. -/
def flight : FrameInFlight :=
  { regenerated := false, pos := 76, number := 5, header := 5#18 ++ 0#14, bank := .a
    rxCrc := Config.crcPreset, txCrc := Config.crcPreset }

/-- A GOOD end of `flight`. -/
def ends (order : List EndItem) : FrameClose := { check := crcValue flight.rxCrc, order := order, snapshotFirst := true }

/-- A DAMAGED end of `flight`. -/
def spoiled : FrameClose := { check := ~~~crcValue flight.rxCrc, order := [], snapshotFirst := true }

/-- A node of address 7, LOCKED, its notice queue empty, with `flight` at its end. -/
def node : State :=
  { State.reset with
    link := { LinkReceiver.reset with state := .locked, expectedPos := some 0, E := 5 }
    frame := some flight, tx := { line := .frame 64 0, sent := [] }
    cmd := { CommandUnit.reset with address := 7 }, notices := NoticeQueue.reset }

/-- `s` with its frame in flight replaced. -/
def inFrame (f : FrameInFlight) (s : State) : State := { s with frame := some f }

/-- `flight` before word `n`. -/
def before (n : Nat) : FrameInFlight := { flight with pos := n }

/-- A unicast of sequence 9 and tag 3. -/
def ask (n : CommandName) (count : Nat) (p0 p1 p2 p3 : Word) : Request :=
  { cls := .unicast, seq := 9, name := some n, count := count, tag := 3, p0 := p0, p1 := p1, p2 := p2, p3 := p3 }

/-- The same as a broadcast. -/
def tell (n : CommandName) (count : Nat) (p0 : Word) : Request := { ask n count p0 0 0 0 with cls := .broadcast }

/-- `s` with the command `r` in flight. -/
def asking (r : Request) (s : State) : State := { s with cmd := { s.cmd with inFlight := some r } }

/-- `s` with another response record. -/
def record (x : ResponseRecord) (s : State) : State := { s with cmd := { s.cmd with response := x } }

/-- `s` with another map store. -/
def mapped (m : MapStore) (s : State) : State := { s with map := m }

/-- `s` with another Snapshot Unit. -/
def snapped (u : SnapshotUnit) (s : State) : State := { s with snaps := u }

/-- `s` with notice records. -/
def noticed (l : List NoticeRecord) (s : State) : State := { s with notices := { s.notices with records := l } }

/-- `s` with the item written in the frame in flight. -/
def wrote (x : RegionItem) (s : State) : State := { s with arb := { s.arb with item := x } }

/-- `s` with output channel 3 in a given state. -/
def output3 (o : OutputChannel) (s : State) : State := { s with outputs := s.outputs.set 3 o }

/-- `s` with counter 6 replaced and the gate RUNNING. -/
def counting (c : Counter) (s : State) : State :=
  { s with counters := { s.counters with bank := s.counters.bank.set 6 c, gate := true } }

/-- An answer of sequence 4. -/
def answer4 : Answer := { seq := 4, tag := 1, status := .ok, data := [] }

/-- The node after a happening. -/
def after (i : Instr) (s : State) : State :=
  match exec i s with
  | .next t => t
  | .fault _ => s
  | .refused _ => s

/-- The answer the node holds after a happening, UNSENT. -/
def answered (i : Instr) (s : State) : Option (Status × List Word) :=
  match (after i s).cmd.response with
  | .unsent a => some (a.status, a.data)
  | _ => none

/-! ### Well-formedness -/

theorem test_wf_refuses_a_short_candidate : (Instr.candidateCheckWord (List.replicate 74 0) 0).wf = false := by decide
theorem test_wf_refuses_a_work_named_twice : (Instr.frameEnd (ends [.command, .command])).wf = false := by decide
theorem test_wf_accepts : (Instr.candidateCheckWord (List.replicate 75 0) 0).wf = true
    ∧ (Instr.gateStop (ends [.delivery, .command])).wf = true := by decide
/-- The table gives no row bits. -/
theorem test_no_word_spells_a_happening : decodeTableWord 32 0xF35C0A69 = none ∧ decodeTableWord 0 0 = none := by decide

/-! ### Results the manual states -/

/-- PRESUMED: the published check value of this polynomial, preset and complement over the digits 1 to 9. -/
theorem test_crc_of_nine_digits :
    crcValue (crcBits 8 (crcWords Config.crcPreset [0x31323334, 0x35363738]) 0x39000000) = 0xFC891918 := by
  decide +kernel

/-- The table of section 1.6. -/
theorem test_frame_number_comparison : atOrPast 5000 5000 = true ∧ atOrPast 3 262140 = true
    ∧ atOrPast 131071 0 = true ∧ atOrPast 131072 0 = false ∧ atOrPast 200000 0 = false
    ∧ distance 262140 3 = 7 := by decide

/-- The status word of the example of section 3. -/
theorem test_status_word :
    State.statusWord { output3 .safe (noticed [{ notice := .snapshotLost 1, seq := 0, repeats := 0, state := .queued false }]
        (record (.sent answer4) (mapped { MapStore.reset with active := .b } node))) with
      counters := { node.counters with gate := true } } = 0x964447 := by decide

/-- Slots 2, 3 and 6 of that example: INSERT of a fresh 1,250, FILL with a stale -45, DRAIN of a foreign -12. -/
theorem test_grooming :
    (groom ⟨.insert, 0, 1, false, 0⟩ 7 (.fresh 1250 false) 0 0).out = 0x870004E2
      ∧ (groom ⟨.fill, 1, 1, false, 0⟩ 7 (.used (BitVec.ofInt 24 (-45))) 0 0).out = 0xC7FFFFD3
      ∧ (groom ⟨.drain, 1, 2, true, 3⟩ 7 .never 0 0x85FFFFF4).staged = some (BitVec.ofInt 24 (-12))
      ∧ foreignIn ⟨.drain, 1, 2, true, 3⟩ 0x85FFFFF4 = true := by decide

/-- The relock example of section 2.5: the frame found at 15,928 leaves at 15,992 after 1,064 bit times of fill. -/
theorem test_relock_fill :
    (after .syncFoundInLocked { node with
      frame := none, tx := { line := .relockFill 14928, sent := [] }
      link := { node.link with expectedPos := some 13464, verifiedHere := true, relockWait := true } }).tx
      = { line := .frame 15992 1064, sent := [0xF35C0A69] } := by decide

/-- Row 3 of the table of R32: frame 502 ends GOOD with received number 0. -/
theorem test_number_jump :
    (after (.frameEnd (ends [])) (inFrame { flight with number := 502, header := 0 } node)).link.E = 1
      ∧ (after (.frameEnd (ends [])) (inFrame { flight with number := 502, header := 0 } node)).notices.records.map
          NoticeRecord.notice = [.numberJump 502 0] := by decide

/-- The retry of section 10.2: COMMIT of 59,510 at the end of frame 59,512, and the firing at 59,513. -/
theorem test_commit_behind :
    answered (.commit (ends [])) (asking (ask .commit 1 59510 0 0 0)
        (inFrame { flight with number := 59512, header := 59512#18 ++ 0#14 } node)) = some (.ok, [59510, 262141])
      ∧ (after (.commitFire 0) (inFrame (before 1) (mapped { MapStore.reset with commit := some 59510 }
          { node with link := { node.link with E := 59513 } }))).notices.records.map NoticeRecord.notice
        = [.commitDone 59513 3 .b] := by decide

/-- The conflict of section 4's example: slots 10 and 40 both TAP output 2. -/
theorem test_map_conflict :
    answered (.commit (ends [])) (asking (ask .commit 1 20100 0 0 0) (mapped { MapStore.reset with
      bankB := (MapBank.allPass.set 10 ⟨.tap, 2, 2, true, 3⟩).set 40 ⟨.tap, 2, 2, true, 3⟩ } node))
      = some (.mapConflict, [10, 40]) := by decide

/-- Frame 20,003 of that example: slot 10 TAP of output 2, class 2, expect 3; slot 11 INSERT of channel 5, class 1. -/
theorem test_write_entries :
    (after (.writeEntries (ends [])) (asking (ask .writeEntries 2 0x0A02 0x89435480 0 0) node)).map.bankB[10]
      = ⟨.tap, 2, 2, true, 3⟩
      ∧ (after (.writeEntries (ends [])) (asking (ask .writeEntries 2 0x0A02 0x89435480 0 0) node)).map.bankB[11]
      = ⟨.insert, 5, 1, false, 0⟩ := by decide

/-- The identity record of section 10.1, answered to a claimed ASSIGN ADDRESS of 1. -/
theorem test_claimed_address :
    answered (.assignAddress (ends [])) (asking { ask .assignAddress 1 1 0 0 0 with cls := .firstUnaddressed }
      { node with cmd := CommandUnit.reset }) = some (.ok, [0x4C360002, 0x40080810, 0x04060000]) := by decide

/-- Frame 503 of section 5's example: age 2 reaches hold limit 3 in a REGENERATED frame. -/
theorem test_output_expires :
    (after (.outputExpiry 3 (ends [])) (inFrame { flight with regenerated := true } (output3 (.live 2000 2) { node with
      cmd := { node.cmd with params := Parameters.default.put (.holdLimit 3) 3 } }))).notices.records.map
        NoticeRecord.notice = [.outputExpired 8] := by decide

/-- The example of section 6.10: HOLD_LIMIT 3 lowered to 4 at age 5 expires channel 3 at once. -/
theorem test_hold_limit_lowered :
    (after (.setParameter (ends [])) (asking (ask .setParameter 2 11 4 0 0) (output3 (.live 9 5) node))).outputs[3]
      = .safe := by decide

/-- R124: two new kinds at one frame end and one free place. The OUTPUT_EXPIRED of a lowered HOLD_LIMIT and the
SNAPSHOT_LOST of a full snapshot queue may come in either order: the first taken is appended, the second dropped. -/
theorem test_two_new_kinds_one_place (first : Bool) :
    let q : List NoticeRecord := [.restarted .powerOrPin, .syncLost 1 1, .syncRegained 1 1, .numberJump 1 2,
      .commitDone 1 0 .a].map fun n => { notice := n, seq := 0, repeats := 0, state := .queued false }
    let r : SnapshotRecord := { captureE := 1, causes := { command := true, scheduled := false, wrap := false, syncLoss := false }
                                wrapMask := 0, gate := false, serial := 0, values := Vector.replicate 16 0 }
    let t := after (.setParameter { ends [] with snapshotFirst := first }) (asking (ask .setParameter 2 11 4 0 0)
      (output3 (.live 9 5) (noticed q (snapped { SnapshotUnit.reset with queue := [r, r, r, r], scheduled := some 5 } node))))
    (t.notices.records.map NoticeRecord.kind).getLastD .restarted = (if first then .snapshotLost else .outputExpired)
      ∧ t.notices.records.length = 6 ∧ t.notices.dropped = 1 ∧ t.notices.pendingDrops = 1 := by
  cases first <;> decide

/-- SAFE_VALUE -1,000 is sent with its sign copied (R6, R114). -/
theorem test_safe_value_word :
    answered (.setParameter (ends [])) (asking (ask .setParameter 2 19 0x12FFFC18 0 0) node)
      = some (.ok, [0xFFFFFC18]) := by decide

/-- Frame 802 of section 5's example: an arrival that finds FRESH is an overwrite. -/
theorem test_overwrite :
    (after (.sampleArrival 2 4150) { node with inputs := node.inputs.set 2 ⟨.fresh 4135 false, 0, 0⟩ }).inputs[2]
      = ⟨.fresh 4150 false, 1, 1⟩ := by decide

/-- Frames 903 and 904 of section 8's example: an edge counter counts the onset and not the run. -/
theorem test_edge_counting :
    let c : Counter := { Counter.reset with control := { CounterControl.zero with
      source := .slot .staleIn, mask := 4, threshold := 1, edge := true, enable := true } }
    (c.evaluate 3).value = 1 ∧ ((c.evaluate 3).evaluate 1).value = 1
      ∧ (((c.evaluate 3).evaluate 0).evaluate 2).value = 2 := by decide

/-- The control word of section 8's other example with enable 0, read back with the wrap flag set. -/
theorem test_control_word :
    answered (.getCounterControl (ends [])) (asking (ask .getCounterControl 1 6 0 0 0) (counting
      { value := 0, wrapFlag := true, previous := false, control := { CounterControl.zero with
          source := .node .always, enable := false, snapOnWrap := true, clearOnCapture := true } } node))
      = some (.ok, [0xD80000C0, 0x00000001]) := by decide

/-- Frame 21,000 of that example: the wrap is captured with its flag, then cleared. -/
theorem test_wrap_capture :
    let t := after (.counterWrap 6 (ends [])) (counting { Counter.reset with
      value := 0xFFFFFFFFFF
      control := { CounterControl.zero with
        source := .node .always, enable := true, snapOnWrap := true, clearOnCapture := true } } node)
    t.snaps.queue.map SnapshotRecord.wrapMask = [0x0040] ∧ t.counters.bank[6].wrapFlag = false
      ∧ t.counters.bank[6].value = 0 := by decide

/-- A snapshot record of serial 5. -/
def shot : SnapshotRecord :=
  { captureE := 39999, causes := ⟨false, false, true, false⟩, wrapMask := 4, gate := true, serial := 5
    values := Vector.replicate 16 0x0100000002 }

/-- Frame 40,005 of section 9's example: the trigger fires into a full queue. -/
theorem test_full_queue :
    let t := after (.scheduledSnapshotFire (ends []))
      (snapped { SnapshotUnit.reset with queue := List.replicate 4 shot, scheduled := some 5 } node)
    t.snaps.lost = 1 ∧ t.snaps.scheduled = none ∧ t.notices.records.map NoticeRecord.notice = [.snapshotLost 1] := by
  decide

/-- READ SNAPSHOT parts 0 and 8 (R162). -/
theorem test_read_snapshot :
    answered (.readSnapshot (ends [])) (asking (ask .readSnapshot 1 0 0 0 0) (snapped
      { SnapshotUnit.reset with queue := [shot] } node)) = some (.ok, [39999, 0x00042105, 1])
      ∧ answered (.readSnapshot (ends [])) (asking (ask .readSnapshot 1 8 0 0 0) (snapped
      { SnapshotUnit.reset with queue := [shot] } node)) = some (.ok, [1, 2, 1, 2]) := by decide

/-- A broadcast NODE RESET meets a running copy: ABORTED where it comes first, OK where the completion does (R66). -/
theorem test_reset_meets_copy :
    let s := asking (tell .nodeReset 0 0) (record (.pending 11 0) (mapped { MapStore.reset with copy := some .a } node))
    answered (.nodeReset (ends [.command, .copyCompletion])) s = some (.aborted, [])
      ∧ answered (.nodeReset (ends [.copyCompletion, .command])) s = some (.ok, [0]) := by decide

/-- R35, R55: a NODE RESET leaves a commit and a copy IDLE and the banks as they stood, bank B active; at the next header
time both banks are all PASS, bank A active. -/
theorem test_banks_reset_at_the_next_header :
    let e : MapEntry := ⟨.drain, 1, 0, false, 0⟩
    let t := after (.nodeReset (ends [])) (asking (ask .nodeReset 0 0 0 0 0)
      (mapped { MapStore.reset with bankB := MapBank.allPass.set 9 e, active := .b, commit := some 9 } node))
    t.map.commit = none ∧ t.map.active = .b ∧ t.map.bankB[9] = e
      ∧ (after (.headerTime 0) (inFrame (before 1) t)).map = MapStore.reset
      ∧ (after (.headerTime 0) (inFrame (before 1) t)).frame.map FrameInFlight.bank = some .a := by decide

/-- Frame 6,001 of section 7's example: the words of a notice, and its delivery. -/
theorem test_notice_words :
    noticeWords 2 0 { notice := .outputExpired 1, seq := 17, repeats := 0, state := .queued false }
      = [0x08461480, 0x00000001, 0, 0, 0] := by decide

/-- A command region header of target `t`, sequence 1, the code of `n`, one parameter and tag 49h (R4). -/
def commandWord (t : Address) (n : CommandName) : Word := t ++ 1#8 ++ commandCode n ++ 1#3 ++ 0x49#7

theorem commandWord_code (t : Address) (n : CommandName) : (commandWord t n).extractLsb' 10 8 = commandCode n := by
  unfold commandWord
  generalize commandCode n = c
  rw [extract_upper (h := by decide), extract_upper (h := by decide), extract_lower (h := by decide), extract_whole]

/-- Frame 50,100 of section 10.1: the claimed command's target leaves as 62. -/
theorem test_claim_rewrites_the_target :
    ((after (.commandRegionHeader (commandWord 0#6 .assignAddress) (some .assignAddress) 1 0 0 0) (inFrame
      { before 66 with header := 1 } { node with cmd := CommandUnit.reset })).tx.sent.headD 0)
        = commandWord 62#6 .assignAddress := by
  have hc := commandWord_code 0#6 .assignAddress
  have ht : (commandWord 0#6 .assignAddress).extractLsb' 26 6 = 0#6 := by
    unfold commandWord
    rw [extract_upper (h := by decide), extract_upper (h := by decide), extract_upper (h := by decide),
      extract_upper (h := by decide)]
    decide
  have hl : claimedHeader (commandWord 0#6 .assignAddress) = commandWord 62#6 .assignAddress := by
    unfold claimedHeader commandWord
    generalize commandCode .assignAddress = c
    revert c
    decide
  simp [after, exec, execCommandRegionHeader, happens, State.frameAt, inFrame, before, node, State.reset, State.cold,
    flight, CommandUnit.reset, State.commandRegion, FrameInFlight.carriesCommand, headerCommandPresent,
    readCommand, targetClass, commandTarget, commandName, hc, ht, hl, isNodeAddress, Request.headerOut, State.passWords]

/-- R4: a code names its own command alone, and two commands never share one. -/
theorem test_command_codes (n m : CommandName) :
    commandName (commandWord 7 n) = some n ∧ (commandCode n = commandCode m ↔ n = m) :=
  ⟨by rw [commandName, commandWord_code, commandOfCode_code], commandCode_injective.eq_iff⟩

/-! ### Every statement's hypotheses are met -/

/-- A command executed at a GOOD end of `flight`. -/
theorem executes {s : State} {r : Request} {n : CommandName} (order : List EndItem) (h0 : s.resetHeld = false)
    (hf : s.frame = some flight) (hi : s.cmd.inFlight = some r) (hn : r.name = some n) (hc : r.cls = .unicast)
    (he : s.cmd.response = .empty) : Executes s flight (ends order) r n :=
  ⟨⟨⟨h0, hf, rfl⟩, rfl, rfl⟩, hi, hn, hc, .inl he⟩

/-- A broadcast heard at a GOOD end of `flight`. -/
theorem hears {s : State} {r : Request} {n : CommandName} (order : List EndItem) (h0 : s.resetHeld = false)
    (hf : s.frame = some flight) (hi : s.cmd.inFlight = some r) (hn : r.name = some n) (hc : r.cls = .broadcast)
    (hb : s.cmd.broadcastSeq = none) : HearsBroadcast s flight (ends order) r n :=
  ⟨⟨⟨h0, hf, rfl⟩, rfl, rfl⟩, hi, hn, hc, by rw [hb]; simp⟩

theorem executes_ask (n : CommandName) (k : Nat) (p0 p1 p2 p3 : Word) :
    Executes (asking (ask n k p0 p1 p2 p3) node) flight (ends []) (ask n k p0 p1 p2 p3) n :=
  executes [] rfl rfl rfl rfl rfl rfl

theorem hears_tell (n : CommandName) (k : Nat) (p0 : Word) :
    HearsBroadcast (asking (tell n k p0) node) flight (ends []) (tell n k p0) n :=
  hears [] rfl rfl rfl rfl rfl rfl

theorem node_calm : Calm node := ⟨rfl, rfl, rfl, rfl, rfl⟩

theorem asking_calm (r : Request) : Calm (asking r node) := ⟨rfl, rfl, rfl, rfl, rfl⟩

theorem no_output_live {s : State} (h : s.outputs = Vector.replicate 8 .unassigned) (c : Channel) (v : Sample)
    (age : Nat) : s.outputs[c] ≠ .live v age := by
  simp [h]

theorem node_raises_nothing : NothingRaised node flight := ⟨by decide, no_output_live rfl⟩

theorem asking_raises_nothing (r : Request) : NothingRaised (asking r node) flight :=
  ⟨by decide, no_output_live rfl⟩

theorem node_noCommand : NoCommand node := fun r h => by cases h

theorem node_atEnd : AtEnd node flight := ⟨rfl, rfl, rfl⟩

theorem test_StepTakesTheFrontHappening_met : State.reset.pending = [] := rfl

theorem test_EveryHappeningGoesOn_met : ({ node with resetHeld := true } : State).resetHeld = true
    ∧ (∀ t, Instr.frameEnd (ends []) ≠ .powerOn t) ∧ ∀ t, Instr.frameEnd (ends []) ≠ .resetPinRelease t := by simp

theorem test_ResetsSetEveryBlock_met : node.resetHeld = false ∧ ({ node with resetHeld := true } : State).resetHeld = true
    ∧ ((Instr.powerOn 9 = .powerOn 9 ∧ node.resetHeld = false)
      ∨ (Instr.powerOn 9 = .resetPinRelease 9 ∧ node.resetHeld = true))
    ∧ ((Instr.powerOn 9 = .resetPinLow 9 ∧ ({ node with resetHeld := true } : State).resetHeld = false)
      ∨ (Instr.powerOn 9 = .powerOn 9 ∧ ({ node with resetHeld := true } : State).resetHeld = true)) := by decide

theorem test_RegeneratedFramesKeepTheLineBusy_met :
    let waiting : State := { node with frame := none, link := LinkReceiver.reset }
    State.reset.resetHeld = false ∧ State.reset.frame = none ∧ State.reset.tx.line = .startup 0
      ∧ waiting.resetHeld = false ∧ waiting.frame = none ∧ waiting.tx.line = .frame 64 0 ∧ waiting.link.state = .hunt
      ∧ ({ node with frame := none } : State).link.state = .locked := by decide

/-- A node that expects a sync word at 100. -/
def expecting (st : LinkState) (misses : Nat) : State :=
  { node with
    frame := none
    link := { LinkReceiver.reset with state := st, missCount := misses, expectedPos := some 100, E := 5 } }

theorem test_FoundSyncBecomesCandidate_met : State.reset.resetHeld = false ∧ State.reset.link.state = .hunt
    ∧ (expecting .flywheel 1).resetHeld = false ∧ (expecting .flywheel 1).link.state = .flywheel
    ∧ (expecting .flywheel 1).link.due ≠ some 101 ∧ (expecting .flywheel 1).link.due ≠ some 99 := by decide

/-- A node in VERIFY with candidate position 11,000. -/
def verifying (checked lost : Bool) : State :=
  { node with link := { LinkReceiver.reset with
      state := .verify, candidatePos := some 11000, candidateChecked := checked, lostFlag := lost } }

theorem test_FailedVerificationReturnsToHunt_met :
    (∀ lost, (verifying false lost).resetHeld = false ∧ (verifying false lost).link.state = .verify
      ∧ (verifying false lost).link.candidateChecked = false ∧ (verifying false lost).link.lostFlag = lost)
    ∧ (∀ lost, (verifying true lost).link.candidateChecked = true ∧ (verifying true lost).link.candidatePos ≠ none)
    ∧ crcOf [] = crcOf [] ∧ 1 ≠ crcOf [] ∧ (0 : Word) ≠ 0xF35C0A69#32 := by decide

theorem test_SecondSyncLocksAndRelocks_met :
    (∀ lost, (verifying true lost).resetHeld = false ∧ (verifying true lost).link.state = .verify
      ∧ (verifying true lost).link.candidateChecked = true ∧ (verifying true lost).link.candidatePos = some 11000)
    ∧ ({ verifying true true with frame := none, tx := { line := .frame (13528 - 2464) 0, sent := [] } } : State).frame = none
    ∧ (LineOut.frame (13528 - 2464) 0).freeFrom ≤ 11000 + 2528
    ∧ ¬(LineOut.frame (13529 - 2464) 0).freeFrom ≤ 11000 + 2528 := by decide

theorem test_FoundSyncIsForwarded_met :
    (expecting .locked 0).resetHeld = false ∧ (expecting .locked 0).frame = none
      ∧ (expecting .locked 0).link.due = some 100 ∧ (expecting .locked 0).link.state = .locked
      ∧ (expecting .flywheel 1).link.due = some 100 ∧ (expecting .flywheel 1).link.state = .flywheel
      ∧ (LineOut.relockFill 164).freeFrom ≤ 100 + 64 ∧ ¬(LineOut.relockFill 165).freeFrom ≤ 100 + 64
      ∧ ({ (expecting .locked 0).link with relockWait := true } : LinkReceiver).relockWait = true := by decide

/-- At the default limit of 4 the third miss stays in FLYWHEEL and the fourth gives up. -/
theorem test_MissedSyncIsRegenerated_met :
    (expecting .locked 0).resetHeld = false ∧ (expecting .locked 0).frame = none
      ∧ (expecting .locked 0).link.due = some 100 ∧ (expecting .locked 0).link.state = .locked
      ∧ (expecting .flywheel 2).link.due = some 100 ∧ (expecting .flywheel 2).link.state = .flywheel
      ∧ (expecting .flywheel 2).link.missCount + 1 < (expecting .flywheel 2).cmd.params.flywheelLimit
      ∧ (expecting .flywheel 3).cmd.params.flywheelLimit ≤ (expecting .flywheel 3).link.missCount + 1 := by decide

theorem test_HeaderTimeNumbersTheFrame_met : (inFrame (before 1) node).resetHeld = false
    ∧ (inFrame (before 1) node).frame = some (before 1) ∧ (before 1).pos = 1
    ∧ (∀ F, (inFrame (before 1) node).map.commit = some F → 131072 ≤ (5 - F).toNat)
    ∧ ({ before 1 with regenerated := true } : FrameInFlight).regenerated = true
    ∧ 131072 ≤ ((5 : FrameNumber) - 131077).toNat
    ∧ (inFrame (before 1) node).map.resetDue = false ∧ (inFrame (before 1) (mapped node.map.nodeReset node)).map.commit = none
    ∧ (inFrame (before 1) (mapped node.map.nodeReset node)).map.resetDue = true := by
  refine ⟨rfl, rfl, rfl, fun F h => (by cases h), rfl, by decide, rfl, rfl, rfl⟩

theorem test_CommitFiresAtTheHeader_met :
    (∀ F : FrameNumber, (inFrame (before 1) (mapped { MapStore.reset with commit := some F } node)).resetHeld = false
      ∧ (inFrame (before 1) (mapped { MapStore.reset with commit := some F } node)).frame = some (before 1)
      ∧ (inFrame (before 1) (mapped { MapStore.reset with commit := some F } node)).map.commit = some F
      ∧ (inFrame (before 1) (mapped { MapStore.reset with commit := some F } node)).map.resetDue = false)
    ∧ (before 1).pos = 1 ∧ ((5 : FrameNumber) - 5).toNat < 131072 ∧ ((5 : FrameNumber) - 131078).toNat < 131072
    ∧ 131072 ≤ ((5 : FrameNumber) - 131077).toNat
    ∧ Names (MapBank.allPass.set 0 ⟨.tap, 2, 0, false, 0⟩) 2 ∧ ¬Names MapBank.allPass 2 := by
  refine ⟨fun F => ⟨rfl, rfl, rfl, rfl⟩, rfl, by decide, by decide, by decide, ⟨0, rfl, rfl⟩, fun ⟨i, h, _⟩ => ?_⟩
  simp [MapBank.allPass, MapEntry.zero, MapEntry.taps] at h

/-- A node about to pass slot `i` by entry `e`, its input channel 0 in state `c`. -/
def grooming (i : SlotNumber) (e : MapEntry) (c : InputState) : State :=
  { inFrame (before (i.val + 2)) (mapped { MapStore.reset with bankA := MapBank.allPass.set i e } node) with
    inputs := node.inputs.set 0 ⟨c, 0, 0⟩ }

theorem grooming_met (i : SlotNumber) (e : MapEntry) (c : InputState) :
    (grooming i e c).resetHeld = false ∧ (grooming i e c).frame = some (before (i.val + 2))
      ∧ (before (i.val + 2)).pos = i.val + 2 ∧ ((grooming i e c).map.bank (before (i.val + 2)).bank)[i] = e :=
  ⟨rfl, rfl, rfl, by simp [grooming, inFrame, mapped, before, flight, MapStore.bank]⟩

/-- For slots 0 and 63, every action and every state of the channel: `grooming_met` gives the state. -/
theorem test_SlotLeavesAsItsEntrySays_met (a : MapAction) (c : InputState) :
    ((grooming 0 ⟨a, 0, 0, false, 0⟩ c).map.bank .a)[(0 : SlotNumber)] = ⟨a, 0, 0, false, 0⟩
      ∧ ((grooming 63 ⟨a, 0, 0, false, 0⟩ c).map.bank .a)[(63 : SlotNumber)] = ⟨a, 0, 0, false, 0⟩
      ∧ (grooming 0 ⟨a, 0, 0, false, 0⟩ c).inputs[(0 : Channel)].state = c :=
  ⟨(grooming_met 0 _ c).2.2.2, (grooming_met 63 _ c).2.2.2, by simp [grooming]⟩

theorem test_SlotReadsStagesAndCopies_met :
    ((grooming 0 ⟨.drain, 0, 1, true, 3⟩ .never).map.bank .a)[(0 : SlotNumber)] = ⟨.drain, 0, 1, true, 3⟩
      ∧ (0x85FFFFF4 : Word).getLsbD 31 = true ∧ (0x85FFFFF4 : Word).getLsbD 30 = false
      ∧ (grooming 63 ⟨.fill, 0, 1, false, 0⟩ (.fresh 5 false)).inputs[(0 : Channel)].state = .fresh 5 false
      ∧ ({ MapStore.reset with copy := some .a } : MapStore).copy = some .a
      ∧ (grooming 0 ⟨.drain, 0, 1, true, 3⟩ .never).map.copy = none := by decide

theorem test_SlotEventsAreCountedByClass_met :
    SlotEvent ⟨.clear, 0, 3, false, 0⟩ .never 0 .emptyIn ∧ SlotEvent ⟨.pass, 0, 3, true, 3⟩ .never 0xC5000000 .staleIn
      ∧ SlotEvent ⟨.pass, 0, 3, true, 3⟩ .never 0xC5000000 .foreign
      ∧ SlotEvent ⟨.insert, 0, 3, false, 0⟩ (.used 1) 0 .inserted ∧ SlotEvent ⟨.fill, 0, 3, false, 0⟩ (.used 1) 0 .filled
      ∧ SlotEvent ⟨.fill, 0, 3, false, 0⟩ .never 1 .fillSkipped ∧ SlotEvent ⟨.clear, 0, 3, false, 0⟩ .never 1 .cleared := by
  refine ⟨rfl, ⟨rfl, rfl⟩, ⟨rfl, rfl, by decide⟩, ⟨rfl, by simp⟩, ⟨rfl, rfl, by simp⟩, ⟨rfl, by decide⟩, .inl rfl⟩

theorem test_CommandRegionIsReadInFlight_met :
    (inFrame { before 66 with header := 1 } node).resetHeld = false
      ∧ (inFrame { before 66 with header := 1 } node).frame = some { before 66 with header := 1 }
      ∧ ({ before 66 with header := 1 } : FrameInFlight).regenerated = false ∧ (1 : Word).getLsbD 0 = true
      ∧ ({ before 66 with header := 0 } : FrameInFlight).header.getLsbD 0 = false
      ∧ (0xFC000000 : Word).extractLsb' 26 6 = 63 ∧ (0x1C000000 : Word).extractLsb' 26 6 = node.cmd.address
      ∧ 1 ≤ node.cmd.address.toNat ∧ node.cmd.address.toNat ≤ 61 ∧ State.reset.cmd.address = 0
      ∧ (0x20000000 : Word).extractLsb' 26 6 ≠ node.cmd.address
      ∧ (∀ t n, CodeNames (commandWord t n) (some n) ∧ ¬CodeNames (commandWord t n) none) ∧ ∃ w : Word, CodeNames w none := by
  refine ⟨by decide, by decide, by decide, by decide, by decide, by decide, by decide, by decide, by decide, by decide,
    by decide, fun t n => ⟨commandWord_code .., fun h => h n (commandWord_code ..)⟩, 0#14 ++ Config.codeOrder 21#8 ++ 0#10, fun n h => ?_⟩
  rw [extract_upper (h := by decide), extract_lower (h := by decide), extract_whole] at h
  have := Config.codeOrder.injective h
  cases n <;> revert this <;> decide

theorem test_ResponseRegionIsShared_met :
    (inFrame (before 71) (record (.unsent answer4) node)).resetHeld = false
      ∧ (inFrame (before 71) (record (.unsent answer4) node)).frame = some (before 71)
      ∧ (before 71).pos = 71 ∧ (record (.unsent answer4) node).cmd.response = .unsent answer4
      ∧ (∀ a, node.cmd.response ≠ .unsent a)
      ∧ NoticeQueue.restarted.records.find? NoticeRecord.isQueued
        = some { notice := .restarted .powerOrPin, seq := 0, repeats := 0, state := .queued false }
      ∧ (∀ r ∈ node.notices.records, r.isQueued = false) := by
  refine ⟨rfl, rfl, rfl, rfl, fun a h => (by cases h), rfl, by decide⟩

theorem test_ArrivalReplacesTheSample_met : node.resetHeld = false
    ∧ (∃ v mark, (InputState.fresh 4135 true) = .fresh v mark) ∧ (∀ v mark, node.inputs[(0 : Channel)].state ≠ .fresh v mark)
    ∧ (1 : Channel) ≠ 0 := by
  refine ⟨rfl, ⟨_, _, rfl⟩, fun v m h => ?_, by decide⟩
  simp [node, State.reset, State.cold, InputChannel.reset] at h

theorem test_FrameEndNumbersTheNext_met : AtEnd node flight ∧ Calm node ∧ NoCommand node
    ∧ (∀ (c : Channel) (v : Sample) (age : Nat), node.outputs[c] ≠ .live v age) ∧ (ends []).order = []
    ∧ EndsGood flight (ends []).check ∧ ¬EndsGood flight spoiled.check
    ∧ headerNumber ({ flight with header := 0 } : FrameInFlight).header ≠ flight.number
    ∧ AtEnd (inFrame { flight with header := 0 } node) { flight with header := 0 } := by
  refine ⟨node_atEnd, node_calm, node_noCommand, no_output_live rfl, rfl, ⟨rfl, rfl⟩, fun h => ?_, by decide,
    ⟨rfl, rfl, rfl⟩⟩
  exact absurd h.2 (by decide)

/-- `s` with a frame in flight of which the sync word and `n` words of zeros have passed. -/
def carrying (regenerated : Bool) (n : Nat) (s : State) : State :=
  { inFrame { before (n + 1) with
      regenerated := regenerated, txCrc := crcWords 0xFFFFFFFF#32 (List.replicate n 0) } s with
    tx := { line := .frame 64 0, sent := 0xF35C0A69#32 :: List.replicate n 0 } }

theorem carrying_words (regenerated : Bool) (n : Nat) (s : State) (h : n + 1 ≤ 66 ∨ n + 1 = 71 ∨ n + 1 = 76) :
    FrameWords (carrying regenerated n s) where
  sync := fun _ _ => rfl
  count := fun f hf => by cases hf; simp [carrying, inFrame, before]
  position := fun f hf => by cases hf; exact ⟨Nat.succ_pos n, h⟩
  remainder := fun f hf => by cases hf; rfl

theorem test_ErrorCarryKeepsTheSyndrome_met (regenerated : Bool) :
    AtEnd (carrying regenerated 75 node) { before 76 with
      regenerated := regenerated, txCrc := crcWords 0xFFFFFFFF#32 (List.replicate 75 0) }
      ∧ FrameWords (carrying regenerated 75 node) :=
  ⟨⟨rfl, rfl, rfl⟩, carrying_words _ 75 _ (.inr (.inr rfl))⟩

theorem test_ChannelsAtTheFrameEnd_met : AtEnd node flight ∧ NoCommand node
    ∧ (node.slots.staged.map TapRecord.channel).Nodup
    ∧ (([{ channel := 3, value := 2000, cls := 2 }] : List TapRecord).map TapRecord.channel).Nodup
    ∧ (output3 (.live 2000 2) node).outputs[(3 : Channel)] = .live 2000 2
    ∧ (output3 (.live 2000 38) node).cmd.params.holdLimit[(3 : Channel)] ≠ 0
    ∧ ¬(output3 (.live 2000 38) node).cmd.params.holdLimit[(3 : Channel)] ≤ min 255 (38 + 1)
    ∧ (output3 (.live 2000 39) node).cmd.params.holdLimit[(3 : Channel)] ≤ min 255 (39 + 1) := by
  refine ⟨node_atEnd, node_noCommand, by decide, by decide, by decide, by decide, by decide, by decide⟩

theorem test_OutputExpiresToItsSafeValue_met : AtEnd (output3 (.live 2000 39) node) flight
    ∧ NoCommand (output3 (.live 2000 39) node) ∧ (output3 (.live 2000 39) node).outputs[(3 : Channel)] = .live 2000 39
    ∧ (output3 (.live 2000 39) node).cmd.params.holdLimit[(3 : Channel)] ≤ min 255 (39 + 1)
    ∧ (∀ t ∈ (output3 (.live 2000 39) node).slots.staged, t.channel ≠ 3) ∧ Calm (output3 (.live 2000 39) node)
    ∧ (ends []).order = [] ∧ headerNumber flight.header = flight.number
    ∧ (∀ v age, node.outputs[(3 : Channel)] ≠ .live v age) := by
  refine ⟨⟨rfl, rfl, rfl⟩, fun r h => (by cases h), by decide, by decide, by decide, ⟨rfl, rfl, rfl, rfl, rfl⟩, rfl,
    by decide, no_output_live rfl 3⟩

theorem test_CourtesyGapCountsDown_met : AtEnd node flight ∧ NoCommand node ∧ (wrote .response node).arb.item ≠ .none
    ∧ node.arb.item = .none ∧ node.arb.gap = 0
    ∧ ({ node with arb := { node.arb with gap := 1 } } : State).arb.gap = 1 :=
  ⟨node_atEnd, node_noCommand, by decide, rfl, rfl, rfl⟩

/-- A record that waits for an acknowledgement of sequence 17. -/
def waiting (k : Nat) : NoticeRecord :=
  { notice := .outputExpired 1, seq := 17, repeats := 0, state := .awaiting k }

/-- A queue whose one record is QUEUED and AWAITING in turn, and a full one, for the four cases of R124. -/
theorem test_RaisedNoticeFoldsAppendsOrDrops_met :
    (0x7F#8).getLsbD (noticeIndex (Notice.snapshotLost 1).kind).val = false
      ∧ (0xFF#8).getLsbD (noticeIndex (Notice.snapshotLost 1).kind).val = true
      ∧ [waiting 1] = [] ++ waiting 1 :: [] ∧ (waiting 1).kind = (Notice.outputExpired 2).kind
      ∧ NoticeQueue.restarted.records = [] ++
        { notice := .restarted .powerOrPin, seq := 0, repeats := 0, state := .queued false } :: []
      ∧ (∀ x ∈ [waiting 1], x.kind ≠ (Notice.snapshotLost 1).kind) ∧ [waiting 1].length < 6
      ∧ (∀ x ∈ List.replicate 6 (waiting 1), x.kind ≠ (Notice.snapshotLost 1).kind)
      ∧ 6 ≤ (List.replicate 6 (waiting 1)).length := by decide

theorem test_NoticesAreSentAgain_met : AtEnd (noticed [waiting 1] node) flight ∧ Calm (noticed [waiting 1] node)
    ∧ NoCommand (noticed [waiting 1] node) ∧ NothingRaised (noticed [waiting 1] node) flight
    ∧ (waiting 1).state = .awaiting 1 ∧ (waiting 2).state = .awaiting 2 :=
  ⟨⟨rfl, rfl, rfl⟩, ⟨rfl, rfl, rfl, rfl, rfl⟩, fun r h => (by cases h), ⟨by decide, no_output_live rfl⟩, rfl, rfl⟩

/-- The node with a QUEUED notice written into the frame in flight. -/
def sending (renewed : Bool) : State :=
  wrote (.notice .outputExpired) (noticed [{ waiting 0 with state := .queued renewed }] node)

theorem sending_distinct (renewed : Bool) : NoticesDistinct (sending renewed) := by
  cases renewed <;> exact ⟨by decide, by decide, by decide, by decide, by decide⟩

theorem test_DeliveryFollowsTheOutcome_met (renewed : Bool) : AtEnd (sending renewed) flight
    ∧ NoCommand (sending renewed) ∧ (sending renewed).arb.item = .notice .outputExpired
    ∧ NoticesDistinct (sending renewed) ∧ NothingRaised (sending renewed) flight
    ∧ (sending renewed).counters.gate = false ∧ (sending renewed).snaps.scheduled = none
    ∧ (sending renewed).snaps.syncLossMark = false
    ∧ (sending renewed).notices.records[0]? = some { waiting 0 with state := .queued renewed }
    ∧ (wrote .response (record (.unsent answer4) node)).arb.item = .response
    ∧ spoiled.check ≠ crcValue flight.rxCrc ∧ (ends []).check = crcValue flight.rxCrc :=
  ⟨⟨rfl, rfl, rfl⟩, fun r h => (by cases h), rfl, sending_distinct renewed, ⟨by decide, no_output_live rfl⟩, rfl, rfl, rfl,
    rfl, rfl, by decide, rfl⟩

/-- A counter that counts every frame, under a threshold. -/
def everyFrame (threshold : BitVec 8) (edge snap : Bool) (value : CounterValue) : Counter :=
  { Counter.reset with
    value := value
    control := { CounterControl.zero with
      source := .node .always, threshold := threshold, edge := edge, enable := true, snapOnWrap := snap } }

theorem fresh {s : State} (hc : s.cmd.amounts = CommandAmounts.zero) (hs : s.arb.sentResponse = false)
    (hi : s.arb.item = .none) : EventsFresh s := ⟨hc, hs, fun h => by rw [hi] at h; cases h⟩

theorem test_CountersTakeTheFrame_met :
    AtEnd (counting (everyFrame 0 false false 7) node) flight
      ∧ LeavesCounter (asking (ask .setCounter 4 5 0 0 0) (counting (everyFrame 0 false false 7) node)) 6
      ∧ LeavesCounter (asking (ask .clearCounters 1 32 0 0 0) (counting (everyFrame 0 false false 7) node)) 6
      ∧ EventsFresh (counting (everyFrame 0 false false 7) node)
      ∧ (counting (everyFrame 0 false false 7) node).counters.gate = true ∧ node.counters.gate = false
      ∧ (∀ thr edge, (counting (everyFrame thr edge false 7) node).counters.bank[(6 : CounterIndex)]
          = everyFrame thr edge false 7 ∧ (everyFrame thr edge false 7).control.clearOnCapture = false
          ∧ AmountIs (counting (everyFrame thr edge false 7) node) flight (ends [])
            (everyFrame thr edge false 7).control 1)
      ∧ Adds (everyFrame 0 false false 7).control false 1 1 ∧ Adds (everyFrame 1 true false 7).control false 1 1
      ∧ Adds (everyFrame 1 true false 7).control true 1 0 ∧ Adds (everyFrame 2 false false 7).control false 1 0 := by
  refine ⟨⟨rfl, rfl, rfl⟩, fun r h _ => ?_, fun r h _ => ?_, fresh rfl rfl rfl, rfl, rfl,
    fun thr edge => ⟨by simp [counting], rfl, rfl⟩, ?_, ?_, ?_, ?_⟩
  · cases h; simp [ask]
  · cases h; simp [ask]
  all_goals simp [Adds, Holds, everyFrame, CounterControl.zero]

/-- A control word that counts one source over every class or channel. -/
def counts (src : EventSource) : CounterControl := { CounterControl.zero with source := src, mask := 255, enable := true }

/-- The node with output channel 3 LIVE and a tap of class 2 staged for it. -/
def tapStaged : State :=
  { output3 (.live 2000 2) node with
    slots := { SlotEngine.empty with staged := [{ channel := 3, value := 7, cls := 2 }] } }

theorem tapStaged_updated : Updated tapStaged flight (ends []) 3 := ⟨⟨rfl, rfl⟩, by decide, _, .head _, rfl⟩

theorem tapStaged_others : ∀ k : Channel, k ≠ 3 → tapStaged.outputs[k] = .unassigned := by decide

/-- That tap is one OUTPUT_UPDATED and, of class 2, one SLOT_TAPPED; no output channel is SAFE after it. -/
theorem amounts_of_a_tap :
    AmountIs tapStaged flight (ends []) (counts (.slot .tapped)) 1
      ∧ AmountIs tapStaged flight (ends []) (counts (.channel .updated)) 1
      ∧ AmountIs tapStaged flight (ends []) (counts (.channel .safe)) 0 := by
  refine ⟨⟨fun k => if k = 2 then 1 else 0, fun k _ => ?_, fun k h => absurd ⟨rfl, rfl⟩ h, by decide⟩,
    ⟨fun k => if k = 3 then 1 else 0, fun k => ?_, by decide⟩, ⟨fun _ => 0, fun k => ?_, by decide⟩⟩
  · revert k; decide
  · by_cases h : k = 3
    · subst h; exact ⟨fun _ => rfl, fun h => absurd ⟨by decide, tapStaged_updated⟩ h⟩
    · exact ⟨fun hu => absurd (tapStaged_others k h) hu.2.2.1, fun _ => if_neg h⟩
  · refine ⟨fun ⟨_, hu, h⟩ => ?_, fun _ => rfl⟩
    by_cases hk : k = 3
    · subst hk; exact absurd tapStaged_updated hu
    · rw [tapStaged_others k hk] at h
      rcases h with h | ⟨v, a, h, -⟩ <;> cases h

/-- A unicast of a new sequence that draws BAD_COMMAND is one COMMAND_TAKEN and one COMMAND_REFUSED. -/
theorem amounts_of_a_refusal :
    let s := asking { ask .gate 7 0 0 0 0 with name := none } node
    AmountIs s flight (ends []) (counts (.node .commandTaken)) 1
      ∧ AmountIs s flight (ends []) (counts (.node .commandRefused)) 1 :=
  have h : ExecutesAny (asking { ask .gate 7 0 0 0 0 with name := none } node) flight (ends [])
      { ask .gate 7 0 0 0 0 with name := none } := ⟨⟨rfl, rfl⟩, rfl, .inl ⟨rfl, .inl rfl⟩⟩
  ⟨⟨fun _ => rfl, fun n => absurd ⟨_, h⟩ n⟩,
    ⟨fun _ => rfl, fun n => absurd ⟨_, .inl ⟨h, _, _, .inl ⟨rfl, rfl, rfl⟩⟩⟩ n⟩⟩

/-- A new sequence against an UNSENT record is one COMMAND_OVERRUN, and the recorded one against a SENT record one
RESPONSE_RESENT; where the delivery comes before the command, an UNSENT record counts as SENT. -/
theorem amounts_of_the_sequence_record :
    AmountIs (asking (ask .gate 1 1 0 0 0) (record (.unsent answer4) node)) flight (ends [])
        (counts (.node .commandOverrun)) 1
      ∧ AmountIs (asking (ask .gate 1 1 0 0 0) (record (.sent { answer4 with seq := 9 }) node)) flight (ends [])
        (counts (.node .responseResent)) 1
      ∧ NewTo (asking (ask .gate 1 1 0 0 0) (wrote .response (record (.unsent answer4) node))) (ends [])
        (ask .gate 1 1 0 0 0) := by
  refine ⟨⟨fun _ => rfl, fun n => absurd ⟨⟨rfl, rfl⟩, _, rfl, .inl rfl, .inr ⟨answer4, rfl, ?_, by decide⟩⟩ n⟩,
    ⟨fun _ => rfl, fun n => absurd ⟨⟨rfl, rfl⟩, _, rfl, .inl rfl, { answer4 with seq := 9 }, .inl rfl, rfl⟩ n⟩,
    .inr ⟨answer4, .inr ⟨rfl, rfl, by unfold Precedes; decide⟩, by decide⟩⟩
  intro h
  cases h.1

/-- REGION_WRITTEN, REGION_DENIED and RESPONSE_SENT of a frame whose response is written, and NOTICE_DROPPED. -/
theorem amounts_of_the_response_region :
    let s := { wrote .response (record (.unsent answer4) node) with
      notices := { NoticeQueue.reset with pendingDrops := 2 } }
    AmountIs s flight (ends []) (counts (.node .responseSent)) 1
      ∧ AmountIs s flight spoiled (counts (.node .responseSent)) 0
      ∧ AmountIs s flight (ends []) (counts (.node .regionDenied)) 0
      ∧ AmountIs { s with arb := { s.arb with written := true } } flight (ends []) (counts (.node .regionWritten)) 1
      ∧ AmountIs s flight (ends []) (counts (.node .noticeDropped)) 2 := by
  refine ⟨⟨fun _ => rfl, fun n => absurd ⟨rfl, .inr rfl⟩ n⟩, ⟨fun h => ?_, fun _ => rfl⟩,
    ⟨fun h => (by cases h), fun _ => rfl⟩, ⟨fun _ => rfl, fun n => absurd rfl n⟩, rfl⟩
  rcases h.2 with h | h
  · cases h
  · exact absurd h (by decide)

/-- A counter that wraps at this end, with snapshot-on-wrap, and a command in flight that acts elsewhere. -/
def wrapping : State :=
  asking (ask .readStatus 0 0 0 0 0) (counting (everyFrame 0 false true 0xFFFFFFFFFF) node)

theorem test_CounterWrapsAndTriggers_met :
    AtEnd wrapping flight ∧ CommandElsewhere wrapping ∧ EventsFresh wrapping
      ∧ wrapping.counters.bank[(6 : CounterIndex)] = everyFrame 0 false true 0xFFFFFFFFFF
      ∧ AmountIs wrapping flight (ends []) (everyFrame 0 false true 0xFFFFFFFFFF).control 1
      ∧ Adds (everyFrame 0 false true 0xFFFFFFFFFF).control false 1 1
      ∧ 2 ^ 40 ≤ (everyFrame 0 false true 0xFFFFFFFFFF).value.toNat + 1
      ∧ (everyFrame 0 false true 0xFFFFFFFFFF).control.snapOnWrap = true
      ∧ (everyFrame 0 false true 0xFFFFFFFFFF).control.clearOnCapture = false
      ∧ wrapping.snaps.queue.length < 4 := by
  refine ⟨⟨rfl, rfl, rfl⟩, fun r h _ => ?_, fresh rfl rfl rfl, by simp [wrapping, asking, counting], rfl, ?_,
    by decide, rfl, rfl, by decide⟩
  · cases h; simp [ask]
  · simp [Adds, everyFrame, CounterControl.zero]

/-- The node with `k` snapshot records and a scheduled trigger. -/
def shots (k : Nat) (F : Option FrameNumber) : State :=
  snapped { SnapshotUnit.reset with queue := List.replicate k shot, scheduled := F } node

theorem test_ScheduledSnapshotFires_met (k : Nat) (F : FrameNumber) : AtEnd (shots k (some F)) flight
    ∧ CommandElsewhere (asking (ask .identify 0 0 0 0 0) (shots k (some F)))
    ∧ (shots k (some F)).snaps.scheduled = some F
    ∧ (shots k (some F)).snaps.queue.length = k
    ∧ (flight.number - 5).toNat < 131072 ∧ (flight.number - 131078).toNat < 131072
    ∧ 131072 ≤ (flight.number - 131077).toNat :=
  ⟨⟨rfl, rfl, rfl⟩, fun r h _ => (by cases h; simp [ask]), rfl, by simp [shots, snapped], by decide, by decide,
    by decide⟩

/-- The node with a sync-loss mark. -/
def lossMarked (k : Nat) (on : Bool) : State :=
  { snapped { SnapshotUnit.reset with queue := List.replicate k shot, syncLossMark := true } node with
    cmd := { node.cmd with params := { Parameters.default with snapOnSyncLoss := on } } }

theorem test_SyncLossTriggersASnapshot_met (k : Nat) (on : Bool) : AtEnd (lossMarked k on) flight
    ∧ NoCommand (lossMarked k on) ∧ NothingRaised (lossMarked k on) flight ∧ (lossMarked k on).arb.item = .none
    ∧ (lossMarked k on).counters.gate = false ∧ (lossMarked k on).snaps.scheduled = none
    ∧ (lossMarked k on).snaps.syncLossMark = true ∧ (lossMarked k on).cmd.params.snapOnSyncLoss = on
    ∧ (lossMarked k on).snaps.queue.length = k :=
  ⟨⟨rfl, rfl, rfl⟩, fun r h => (by cases h), ⟨by decide, no_output_live rfl⟩, rfl, rfl, rfl, rfl, rfl,
    by simp [lossMarked, snapped]⟩

/-- The node with a copy running from bank A for COPY ACTIVE of sequence 11. -/
def copying : State := record (.pending 11 0) (mapped { MapStore.reset with copy := some .a } node)

theorem test_CopyCompletesAtTheFrameEnd_met : AtEnd copying flight ∧ NoCommand copying ∧ copying.map.copy = some .a
    ∧ CopyKeepsUp copying ∧ copying.cmd.response = .pending 11 0 ∧ copying.arb.item ≠ .response
    ∧ node.map.copy = none :=
  ⟨⟨rfl, rfl, rfl⟩, fun r h => (by cases h), rfl, fun _ _ _ _ _ => rfl, rfl, by decide, rfl⟩

theorem test_CommandsAreTakenAtGoodEnds_met : AtEnd (asking (ask .gate 1 1 0 0 0) node) flight
    ∧ EndsGood flight (ends []).check ∧ (asking (ask .gate 1 1 0 0 0) node).cmd.inFlight = some (ask .gate 1 1 0 0 0)
    ∧ (ask .gate 1 1 0 0 0).cls ≠ .none ∧ (ask .gate 1 1 0 0 0).name = some .gate
    ∧ CommandName.commit ≠ .gate ∧ ¬EndsGood flight spoiled.check ∧ NoCommand node :=
  ⟨⟨rfl, rfl, rfl⟩, ⟨rfl, rfl⟩, rfl, by decide, rfl, by decide, fun h => absurd h.2 (by decide), node_noCommand⟩

theorem test_RetriesAndOverrunsAreNotExecuted_met (x : ResponseRecord) :
    let r := ask .gate 1 1 0 0 0
    AtGoodEnd (asking r (record x node)) flight (ends []) ∧ (asking r (record x node)).cmd.inFlight = some r
      ∧ r.cls = .unicast ∧ (asking r (record x node)).arb.item ≠ .response ∧ (asking r (record x node)).map.copy = none
      ∧ (asking r (record x node)).cmd.response = x ∧ ({ answer4 with seq := 9 } : Answer).seq = r.seq
      ∧ AtGoodEnd (asking r copying) flight (ends []) ∧ (asking r copying).cmd.response = .pending 11 0
      ∧ (asking r copying).map.copy = some .a ∧ (asking r copying).arb.item ≠ .response :=
  ⟨⟨⟨rfl, rfl, rfl⟩, rfl, rfl⟩, rfl, rfl, fun h => (by cases h), rfl, rfl, rfl, ⟨⟨rfl, rfl, rfl⟩, rfl, rfl⟩, rfl, rfl, by decide⟩

theorem test_DeliveryMeetsTheCommand_met (order : List EndItem) :
    let r := ask .gate 1 1 0 0 0
    let s := asking r (wrote .response (record (.unsent answer4) node))
    AtGoodEnd s flight (ends order) ∧ s.cmd.inFlight = some r ∧ r.cls = .unicast ∧ s.arb.item = .response
      ∧ s.cmd.response = .unsent answer4 ∧ r.seq ≠ answer4.seq ∧ r.seq = ({ answer4 with seq := 9 } : Answer).seq
      ∧ Precedes (ends []) .delivery .command ∧ Precedes (ends [.command]) .command .delivery
      ∧ Precedes (ends [.command, .resend]) .command .delivery ∧ (ends order).order = order :=
  ⟨⟨⟨rfl, rfl, rfl⟩, rfl, rfl⟩, rfl, rfl, rfl, rfl, by decide, rfl, by unfold Precedes; decide,
    by unfold Precedes; decide, by unfold Precedes; decide, rfl⟩

theorem test_BroadcastsPassTheirOwnRecord_met (n : CommandName) :
    AtGoodEnd (asking (tell n 0 0) node) flight (ends []) ∧ (asking (tell n 0 0) node).cmd.inFlight = some (tell n 0 0)
      ∧ (tell n 0 0).cls = .broadcast ∧ (asking (tell n 0 0) node).cmd.broadcastSeq ≠ some (tell n 0 0).seq
      ∧ ({ node.cmd with broadcastSeq := some 9 } : CommandUnit).broadcastSeq = some (tell n 0 0).seq
      ∧ (tell n 0 0).name = some n :=
  ⟨⟨⟨rfl, rfl, rfl⟩, rfl, rfl⟩, rfl, rfl, by simp [asking, node, CommandUnit.reset], rfl, rfl⟩

theorem test_RefusedCommandsChangeNothing_met :
    let r : Request := { ask .gate 7 0 0 0 0 with name := none }
    AtGoodEnd (asking r node) flight (ends []) ∧ (asking r node).cmd.inFlight = some r ∧ r.cls = .unicast
      ∧ (asking r node).cmd.response = .empty ∧ r.name = none ∧ (ask .gate 5 0 0 0 0).name ≠ none
      ∧ 5 ≤ (ask .gate 5 0 0 0 0).count
      ∧ Refuses (metByCommand (asking r node) flight (ends [])) r .badCommand []
      ∧ Refuses (metByCommand (asking (ask .gate 1 2 0 0 0) node) flight (ends [])) (ask .gate 1 2 0 0 0) .badParameter []
      ∧ AtGoodEnd (asking (tell .cancelCommit 0 0) node) flight (ends [])
      ∧ (tell .cancelCommit 0 0).cls = .broadcast
      ∧ (asking (tell .cancelCommit 0 0) node).cmd.broadcastSeq ≠ some (tell .cancelCommit 0 0).seq
      ∧ BroadcastName (tell .cancelCommit 0 0).name ∧ ¬BroadcastName (tell .identify 0 0).name
      ∧ Refuses (metByCommand (asking (tell .cancelCommit 0 0) node) flight (ends [])) (tell .cancelCommit 0 0)
        .notArmed [] := by
  refine ⟨⟨⟨rfl, rfl, rfl⟩, rfl, rfl⟩, rfl, rfl, rfl, rfl, by decide, by decide, .inl ⟨rfl, rfl, rfl⟩,
    .inr ⟨_, rfl, by decide⟩, ⟨⟨rfl, rfl, rfl⟩, rfl, rfl⟩, rfl, by decide, ?_, ?_, .inr ⟨_, rfl, by decide⟩⟩
  all_goals unfold BroadcastName; decide

/-- A COMMIT against two TAP entries of one output channel is refused with the two slots. -/
theorem test_a_conflict_refuses :
    let r := ask .commit 0 0 0 0 0
    Refuses (metByCommand (asking r (mapped { MapStore.reset with
      bankB := (MapBank.allPass.set 10 ⟨.tap, 2, 2, true, 3⟩).set 40 ⟨.tap, 2, 2, true, 3⟩ } node)) flight (ends []))
      r .mapConflict [10, 40] := .inr ⟨_, rfl, by decide⟩

theorem test_CommandsKeepToTheirOwnState_met (n : CommandName) :
    Executes (asking (ask n 1 1 0 0 0) node) flight (ends []) (ask n 1 1 0 0 0) n
      ∧ Calm (asking (ask n 1 1 0 0 0) node) ∧ CommandName.gate ≠ .nodeReset :=
  ⟨executes_ask .., asking_calm _, by decide⟩

theorem test_IdentifyAnswersTheIdentityRecord_met :
    Executes (asking (ask .identify 0 0 0 0 0) node) flight (ends []) (ask .identify 0 0 0 0 0) .identify
      ∧ Executes (asking (ask .identify 1 0 0 0 0) node) flight (ends []) (ask .identify 1 0 0 0 0) .identify
      ∧ (ask .identify 0 0 0 0 0).count = 0 ∧ (ask .identify 1 0 0 0 0).count ≠ 0 :=
  ⟨executes_ask .., executes_ask .., rfl, by decide⟩

theorem test_AssignAddressSetsTheAddress_met (v : Word) :
    let r : Request := { ask .assignAddress 1 v 0 0 0 with cls := .firstUnaddressed }
    let s := asking r { node with cmd := CommandUnit.reset }
    Executes (asking (ask .assignAddress 1 v 0 0 0) node) flight (ends []) (ask .assignAddress 1 v 0 0 0) .assignAddress
      ∧ AtGoodEnd s flight (ends []) ∧ s.cmd.inFlight = some r ∧ r.name = some .assignAddress
      ∧ r.cls = .firstUnaddressed ∧ s.cmd.address = 0 ∧ s.cmd.response = .empty ∧ r.count = 1 ∧ r.p0 = v
      ∧ (∀ w ∈ ([1, 61] : List Word), 1 ≤ w.toNat ∧ w.toNat ≤ 61)
      ∧ ∀ w ∈ ([0, 62] : List Word), ¬(1 ≤ w.toNat ∧ w.toNat ≤ 61) :=
  ⟨executes_ask .., ⟨⟨rfl, rfl, rfl⟩, rfl, rfl⟩, rfl, rfl, rfl, rfl, rfl, rfl, rfl, by simp, by simp⟩

theorem test_NodeResetKeepsLinkAndAddress_met (k : Nat) (order : List EndItem) :
    Carries (asking (ask .nodeReset k 0 0 0 0) node) flight (ends []) (ask .nodeReset k 0 0 0 0) .nodeReset
      ∧ Carries (asking (tell .nodeReset k 0) copying) flight (ends order) (tell .nodeReset k 0) .nodeReset
      ∧ Calm (asking (ask .nodeReset k 0 0 0 0) node) ∧ NothingRaised (asking (ask .nodeReset k 0 0 0 0) node) flight
      ∧ (asking (tell .nodeReset k 0) copying).cmd.response = .pending 11 0
      ∧ (asking (tell .nodeReset k 0) copying).map.copy = some .a
      ∧ (asking (tell .nodeReset k 0) copying).arb.item ≠ .response
      ∧ (asking (tell .nodeReset k 0) node).cmd.response = .empty
      ∧ Precedes (ends []) .copyCompletion .command ∧ Precedes (ends [.command]) .command .copyCompletion :=
  ⟨.inl (executes_ask ..), .inr (hears order rfl rfl rfl rfl rfl rfl), asking_calm _, asking_raises_nothing _, rfl, rfl,
    (fun h => by cases h), rfl, by unfold Precedes; decide, by unfold Precedes; decide⟩

theorem node_flywheel_limit : 1 ≤ node.cmd.params.flywheelLimit ∧ node.cmd.params.flywheelLimit ≤ 15 := by decide

theorem node_linkLaw (r : Request) : LinkLaw (asking r node) :=
  ⟨rfl, rfl, fun _ => rfl, node_flywheel_limit, Nat.zero_le 15, fun _ => rfl, fun h => (by cases h), fun f h _ => rfl⟩

theorem test_ReadStatusReportsTheState_met (k : Nat) :
    Executes (asking (ask .readStatus k 0 0 0 0) node) flight (ends []) (ask .readStatus k 0 0 0 0) .readStatus
      ∧ LinkLaw (asking (ask .readStatus k 0 0 0 0) node) ∧ (ask .readStatus k 0 0 0 0).count = k :=
  ⟨executes_ask .., node_linkLaw _, rfl⟩

/-- Every id at both ends of its range fits, and next to them does not. -/
theorem test_SetParameterStoresAndActs_met (id v : Word) :
    Executes (asking (ask .setParameter 2 id v 0 0) node) flight (ends []) (ask .setParameter 2 id v 0 0) .setParameter
      ∧ (∀ p ∈ ([(0, 0), (0, 15), (1, 1), (1, 15), (2, 16), (2, 4095), (3, 0), (3, 255), (4, 0), (4, 1), (8, 0), (15, 255),
          (16, 0), (23, 0xFFFFFFFF)] : List (Word × Word)), ParameterFits p.1 p.2)
      ∧ (∀ p ∈ ([(0, 16), (1, 0), (1, 16), (2, 15), (2, 4096), (3, 256), (4, 2), (5, 0), (7, 0), (8, 256), (24, 0)] :
          List (Word × Word)), ¬ParameterFits p.1 p.2)
      ∧ Calm (asking (ask .setParameter 2 id v 0 0) node) ∧ NothingRaised (asking (ask .setParameter 2 id v 0 0) node) flight
      ∧ NoticesDistinct (asking (ask .setParameter 2 id v 0 0) node)
      ∧ Executes (asking (ask .setParameter 2 11 4 0 0) (output3 (.live 9 3) node)) flight (ends [])
        (ask .setParameter 2 11 4 0 0) .setParameter
      ∧ (after (.frameEnd (ends [])) (output3 (.live 9 3) node)).outputs[(3 : Channel)] = .live 9 4
      ∧ (4 : Word).toNat ≤ 4 ∧ (output3 (.live 9 3) node).counters.gate = false
      ∧ (∀ b, ({ ends [] with snapshotFirst := b } : FrameClose).snapshotFirst = b)
      ∧ ¬Triggers (output3 (.live 9 3) node) flight
      ∧ Triggers (snapped { SnapshotUnit.reset with scheduled := some 5 } (output3 (.live 9 3) node)) flight := by
  refine ⟨executes_ask .., by simp [ParameterFits], by simp [ParameterFits], asking_calm _,
    asking_raises_nothing _, ⟨?_, ?_, ?_, ?_, ?_⟩, executes [] rfl rfl rfl rfl rfl rfl, by decide, by decide, rfl, fun _ => rfl,
    by simp [Triggers, output3, node, State.reset, State.cold, SnapshotUnit.reset], .inl ⟨5, rfl, by decide⟩⟩ <;>
    simp [asking, node, NoticeQueue.reset]

theorem test_GetParameterAnswersTheValueHeld_met (id : Word) :
    Executes (asking (ask .getParameter 1 id 0 0 0) node) flight (ends []) (ask .getParameter 1 id 0 0 0) .getParameter
      ∧ (ask .getParameter 1 id 0 0 0).p0 = id ∧ (8 : Word).toNat = (0 : Channel).val + 8
      ∧ (15 : Word).toNat = (7 : Channel).val + 8 ∧ (16 : Word).toNat = (0 : Channel).val + 16
      ∧ (23 : Word).toNat = (7 : Channel).val + 16
      ∧ (asking (ask .getParameter 1 id 0 0 0) node).cmd.params = Parameters.default :=
  ⟨executes_ask .., rfl, rfl, rfl, rfl, rfl, rfl⟩

theorem test_WriteEntriesFillsTheShadowBank_met (k : Nat) (p0 : Word) :
    Executes (asking (ask .writeEntries k p0 0 0 0) node) flight (ends []) (ask .writeEntries k p0 0 0 0) .writeEntries
      ∧ (asking (ask .writeEntries k p0 0 0 0) node).map.copy = none
      ∧ (asking (ask .writeEntries k p0 0 0 0) node).map.commit = none
      ∧ WriteCountFits 2 1 ∧ WriteCountFits 4 6 ∧ WriteCountFits 2 0 ∧ WriteCountFits 4 7 ∧ ¬WriteCountFits 1 0
      ∧ ¬WriteCountFits 3 1 ∧ (0x3F01 : Word).extractLsb' 8 8 = 63 ∧ (0x3A06 : Word).extractLsb' 8 8 = 58
      ∧ (∀ j, j < 6 → (writtenHalf (ask .writeEntries k p0 0 0 0) j).extractLsb' 13 3 ≠ 7)
      ∧ (writtenHalf (ask .writeEntries k p0 0xE000 0 0) 1).extractLsb' 13 3 = 7 := by
  refine ⟨executes_ask .., rfl, rfl, ?_, ?_, ?_, ?_, ?_, ?_, by decide, by decide, fun j hj => ?_, by simp [writtenHalf, ask]⟩
  all_goals try (unfold WriteCountFits; decide)
  unfold writtenHalf ask
  dsimp only
  split <;> simp

theorem test_ReadEntriesAnswersABank_met (k : Nat) (p0 : Word) :
    Executes (asking (ask .readEntries k p0 0 0 0) node) flight (ends []) (ask .readEntries k p0 0 0 0) .readEntries
      ∧ (asking (ask .readEntries k p0 0 0 0) node).map.copy = none
      ∧ (0x3F01 : Word).extractLsb' 8 8 = 63 ∧ (0x3808 : Word).extractLsb' 8 8 = 56
      ∧ (0x13807 : Word).getLsbD 16 = true ∧ (0x13807 : Word).extractLsb' 0 8 = 7 :=
  ⟨executes_ask .., rfl, by decide, by decide, by decide, by decide⟩

/-- The node with a commit armed for `F`. -/
def armed (F : FrameNumber) : State := mapped { MapStore.reset with commit := some F } node

theorem test_CopyStartsAndCommitIsCancelled_met (k : Nat) (F : FrameNumber) :
    Executes (asking (ask .copyActive k 0 0 0 0) node) flight (ends []) (ask .copyActive k 0 0 0 0) .copyActive
      ∧ Executes (asking (ask .copyActive k 0 0 0 0) (armed F)) flight (ends []) (ask .copyActive k 0 0 0 0) .copyActive
      ∧ Carries (asking (ask .cancelCommit k 0 0 0 0) node) flight (ends []) (ask .cancelCommit k 0 0 0 0) .cancelCommit
      ∧ Carries (asking (tell .cancelCommit k 0) (armed F)) flight (ends []) (tell .cancelCommit k 0) .cancelCommit
      ∧ (asking (tell .cancelCommit k 0) (armed F)).map.commit = some F ∧ (armed F).map.copy = none
      ∧ node.map.copy = none :=
  ⟨executes_ask .., executes [] rfl rfl rfl rfl rfl rfl, .inl (executes_ask ..), .inr (hears [] rfl rfl rfl rfl rfl rfl),
    rfl, rfl, rfl⟩

theorem test_CommitArmsOrSaysWhyNot_met (k : Nat) (p0 : Word) (F : FrameNumber) :
    let v := (MapBank.allPass.set 10 ⟨.tap, 2, 2, true, 3⟩).set 40 ⟨.drain, 2, 2, true, 3⟩
    Carries (asking (ask .commit k p0 0 0 0) node) flight (ends []) (ask .commit k p0 0 0 0) .commit
      ∧ Carries (asking (tell .commit k p0) copying) flight (ends [.command, .copyCompletion]) (tell .commit k p0) .commit
      ∧ Carries (asking (tell .commit k p0) copying) flight (ends []) (tell .commit k p0) .commit
      ∧ Precedes (ends [.command, .copyCompletion]) .command .copyCompletion
      ∧ Precedes (ends []) .copyCompletion .command
      ∧ (asking (ask .commit k p0 0 0 0) node).map.copy = none ∧ node.cmd.address ≠ 0 ∧ State.reset.cmd.address = 0
      ∧ (armed F).map.commit ≠ none ∧ node.map.commit = none ∧ copying.map.copy ≠ none
      ∧ Conflict v 10 40 ∧ (∀ i j, ¬Conflict MapBank.allPass i j) := by
  refine ⟨.inl (executes_ask ..), .inr (hears _ rfl rfl rfl rfl rfl rfl), .inr (hears _ rfl rfl rfl rfl rfl rfl),
    by unfold Precedes; decide, by unfold Precedes; decide, rfl, by decide, rfl, by simp [armed, mapped], rfl, by decide, ⟨by decide, by decide, by decide, by decide⟩, fun i j h => ?_⟩
  have := h.2.1
  simp [MapBank.allPass, MapEntry.zero, MapEntry.taps] at this

theorem test_AcknowledgeRemovesOneRecord_met (k : Nat) (p0 : Word) :
    let s := asking (ask .acknowledgeNotice k p0 0 0 0) (noticed [waiting 400] node)
    Executes s flight (ends []) (ask .acknowledgeNotice k p0 0 0 0) .acknowledgeNotice ∧ Calm s ∧ NothingRaised s flight
      ∧ Resent s.notices.records = [] ++ waiting 399 :: [] ∧ (waiting 399).isAwaiting = true
      ∧ (waiting 399).seq.toNat = (17 : Word).toNat ∧ (waiting 399).seq.toNat ≠ (18 : Word).toNat
      ∧ ¬255 < (255 : Word).toNat ∧ 255 < (256 : Word).toNat :=
  ⟨executes [] rfl rfl rfl rfl rfl rfl, ⟨rfl, rfl, rfl, rfl, rfl⟩, ⟨by decide, no_output_live rfl⟩, rfl, rfl, rfl, by decide,
    by decide, by decide⟩

theorem test_CounterCommandsWrite_met (k : Nat) (p0 p1 : Word) :
    Executes (asking (ask .setCounter k p0 p1 0 0) node) flight (ends []) (ask .setCounter k p0 p1 0 0) .setCounter
      ∧ Executes (asking (ask .clearCounters k p0 0 0 0) node) flight (ends []) (ask .clearCounters k p0 0 0 0) .clearCounters
      ∧ Carries (asking (ask .gate k p0 0 0 0) node) flight (ends []) (ask .gate k p0 0 0 0) .gate
      ∧ Carries (asking (tell .gate k p0) node) flight (ends []) (tell .gate k p0) .gate
      ∧ (15 : Word).toNat = (15 : CounterIndex).val ∧ ¬(16 : Word).toNat ≤ 15
      ∧ ((0xDFFFFFFF : Word).extractLsb' 27 5).toNat = 27 ∧ ((0xE0000000 : Word).extractLsb' 27 5).toNat = 28
      ∧ (65535 : Word).toNat ≤ 65535 ∧ ¬(65536 : Word).toNat ≤ 65535 ∧ Calm (asking (ask .gate k p0 0 0 0) node)
      ∧ Carries (asking (tell .gate k p0) (counting (everyFrame 1 true false 7) node)) flight (ends []) (tell .gate k p0)
        .gate
      ∧ (asking (tell .gate k p0) (counting (everyFrame 1 true false 7) node)).counters.gate = true :=
  ⟨executes_ask .., executes_ask .., .inl (executes_ask ..), .inr (hears_tell ..), rfl, by decide, by decide, by decide,
    by decide, by decide, asking_calm _, .inr (hears [] rfl rfl rfl rfl rfl rfl), rfl⟩

theorem test_CounterCommandsRead_met (k : Nat) (p0 p1 : Word) :
    Executes (asking (ask .getCounterControl k p0 0 0 0) node) flight (ends []) (ask .getCounterControl k p0 0 0 0)
        .getCounterControl
      ∧ Executes (asking (ask .readCounters k p0 p1 0 0) node) flight (ends []) (ask .readCounters k p0 p1 0 0) .readCounters
      ∧ (15 : Word).toNat = (15 : CounterIndex).val ∧ 15 < (16 : Word).toNat
      ∧ (14 : Word).toNat + (2 : Word).toNat ≤ 16 ∧ ¬(15 : Word).toNat + (2 : Word).toNat ≤ 16 :=
  ⟨executes_ask .., executes_ask .., rfl, by decide, by decide, by decide⟩

theorem shots_bounded {k : Nat} (h : k ≤ 4) (F : Option FrameNumber) (r : Request) :
    SnapshotsBounded (asking r (shots k F)) :=
  ⟨by simpa [asking, shots, snapped] using h, Nat.zero_le 255⟩

theorem test_TakeSnapshotNowCaptures_met (F : Option FrameNumber) :
    Carries (asking (ask .takeSnapshot 0 0 0 0 0) (shots 3 F)) flight (ends []) (ask .takeSnapshot 0 0 0 0 0) .takeSnapshot
      ∧ Carries (asking (tell .takeSnapshot 0 0) (shots 4 F)) flight (ends []) (tell .takeSnapshot 0 0) .takeSnapshot
      ∧ SnapshotsBounded (asking (ask .takeSnapshot 0 0 0 0 0) (shots 3 F))
      ∧ SnapshotsBounded (asking (tell .takeSnapshot 0 0) (shots 4 F))
      ∧ (shots 3 F).snaps.queue.length < 4 ∧ (shots 4 F).snaps.queue.length = 4 ∧ (shots 3 F).snaps.scheduled = F
      ∧ 131072 ≤ (flight.number - 131077).toNat :=
  ⟨.inl (executes [] rfl rfl rfl rfl rfl rfl), .inr (hears [] rfl rfl rfl rfl rfl rfl), shots_bounded (by decide) ..,
    shots_bounded (by decide) .., Nat.lt_succ_self 3, rfl, rfl, by decide⟩

theorem test_SnapshotScheduleIsArmedAndCancelled_met (k : Nat) (p0 : Word) :
    (∀ F, (some 131077 : Option FrameNumber) = some F ↔
        (shots 0 (some 131077)).snaps.scheduled = some F ∧ 131072 ≤ (flight.number - F).toNat)
      ∧ (∀ F, (none : Option FrameNumber) = some F ↔
        (shots 0 (some 5)).snaps.scheduled = some F ∧ 131072 ≤ (flight.number - F).toNat)
      ∧ Carries (asking (ask .takeSnapshot k p0 0 0 0) (shots 0 (some 131077))) flight (ends [])
        (ask .takeSnapshot k p0 0 0 0) .takeSnapshot
      ∧ Carries (asking (tell .cancelSnapshot k p0) (shots 0 (some 5))) flight (ends []) (tell .cancelSnapshot k p0)
        .cancelSnapshot := by
  refine ⟨fun F => ⟨fun h => ?_, fun h => h.1⟩, fun F => ⟨fun h => (by cases h), fun h => ?_⟩,
    .inl (executes [] rfl rfl rfl rfl rfl rfl), .inr (hears [] rfl rfl rfl rfl rfl rfl)⟩
  · cases h; exact ⟨rfl, by decide⟩
  · obtain ⟨h1, h2⟩ := h; cases h1; exact absurd h2 (by decide)

theorem test_OldestSnapshotIsReadAndReleased_met (k j : Nat) (p0 : Word) :
    Executes (asking (ask .readSnapshot k p0 0 0 0) (shots j none)) flight (ends []) (ask .readSnapshot k p0 0 0 0)
        .readSnapshot
      ∧ Executes (asking (ask .releaseSnapshot k p0 0 0 0) (shots j none)) flight (ends []) (ask .releaseSnapshot k p0 0 0 0)
        .releaseSnapshot
      ∧ (shots 1 none).snaps.queue = shot :: [] ∧ (shots 0 none).snaps.queue = []
      ∧ (0 : CounterIndex).val + 2 = 2 * (1 : Word).toNat ∧ (14 : CounterIndex).val + 2 = 2 * (8 : Word).toNat
      ∧ 8 < (9 : Word).toNat ∧ Calm (shots j none) :=
  ⟨executes [] rfl rfl rfl rfl rfl rfl, executes [] rfl rfl rfl rfl rfl rfl, rfl, rfl, rfl, rfl, by decide,
    ⟨rfl, rfl, rfl, rfl, rfl⟩⟩

/-! ### States that meet the invariants, with a happening that goes on from them -/

/-- `s` with one happening in its queue. -/
def facing (i : Instr) (s : State) : State := { s with pending := [i] }

theorem allPass_conflictFree : ConflictFree MapBank.allPass := fun i j _ h _ => by
  simp [MapBank.allPass, MapEntry.zero, MapEntry.taps] at h

/-- The copying node before word `n + 1` of its frame meets the laws of the map, the frame and the copy. -/
theorem copying_mapLaw (n : Nat) (i : Instr) : MapLaw (facing i (carrying false n copying)) :=
  ⟨allPass_conflictFree, fun h => absurd rfl h, fun h => absurd rfl h, fun k h => by cases h; rfl, fun h => by cases h⟩

theorem copying_number (n : Nat) (i : Instr) : FrameKeepsItsNumber (facing i (carrying false n copying)) :=
  fun f h => by cases h; exact ⟨rfl, rfl⟩

theorem copying_words (n : Nat) (i : Instr) (h : n + 1 ≤ 66 ∨ n + 1 = 71 ∨ n + 1 = 76) :
    FrameWords (facing i (carrying false n copying)) :=
  ⟨(carrying_words false n copying h).sync, (carrying_words false n copying h).count,
    (carrying_words false n copying h).position, (carrying_words false n copying h).remainder⟩

theorem test_PassedSlotsStayTrue_met :
    let s := facing (.slotInFlight 1) (carrying false 64 copying)
    MapLaw s ∧ FrameKeepsItsNumber s ∧ FrameWords s ∧ StagedOnce s ∧ CopyAnswersLater s ∧ CopyKeepsUp s
      ∧ ∃ t, step s = .next t :=
  ⟨copying_mapLaw 64 _, copying_number 64 _, copying_words 64 _ (by decide),
    ⟨List.nodup_nil, fun _ _ _ ht => (by cases ht), fun _ => rfl⟩, fun _ => ⟨11, 0, rfl⟩, fun _ _ _ _ _ => rfl, _, rfl⟩

theorem test_FrameInFlightStaysWhole_met :
    let s := facing (.slotInFlight 1) (carrying false 64 copying)
    FrameWords s ∧ FrameKeepsItsNumber s ∧ ∃ t, step s = .next t :=
  ⟨copying_words 64 _ (by decide), copying_number 64 _, _, rfl⟩

theorem test_QueuesStayBounded_met :
    SnapshotsBounded (facing (.frameEnd (ends [])) (noticed [waiting 1] (shots 4 (some 5))))
      ∧ NoticesDistinct (facing (.frameEnd (ends [])) (noticed [waiting 1] (shots 4 (some 5))))
      ∧ ∃ t, step (facing (.frameEnd (ends [])) (noticed [waiting 1] (shots 4 (some 5)))) = .next t :=
  ⟨⟨by decide, by decide⟩, ⟨by decide, by decide, by decide, by decide, by decide⟩, _, rfl⟩

/-- The node armed with a shadow bank that taps output 2. -/
def tapping : State :=
  mapped { MapStore.reset with commit := some 5, bankB := MapBank.allPass.set 10 ⟨.tap, 2, 2, true, 3⟩ }
    (inFrame (before 1) node)

theorem tapping_mapLaw (i : Instr) : MapLaw (facing i tapping) := by
  refine ⟨allPass_conflictFree, fun _ => ?_, fun _ => rfl, fun k h => (by cases h), fun h => (by cases h)⟩
  have h : ∀ k : SlotNumber, (MapBank.allPass.set 10 (⟨.tap, 2, 2, true, 3⟩ : MapEntry))[k].taps = true → k = 10 := by
    decide
  intro i j hij hi hj
  exact absurd ((h i hi).trans (h j hj).symm) hij

theorem test_ActiveBankStaysFreeOfConflict_met : MapLaw (facing (.headerTime 0) tapping)
    ∧ ∃ t, step (facing (.headerTime 0) tapping) = .next t ∧ t.map.active = .b :=
  ⟨tapping_mapLaw _, _, rfl, rfl⟩

theorem test_UnaddressedNodePassesEverything_met :
    let r : Request := { ask .assignAddress 1 61 0 0 0 with cls := .firstUnaddressed }
    let s := facing (.assignAddress (ends [])) (asking r { node with cmd := CommandUnit.reset })
    UnaddressedLaw s ∧ s.cmd.address = 0 ∧ ∃ t, step s = .next t ∧ t.cmd.address = 61 := by
  refine ⟨⟨fun _ k i => ?_, fun _ => ⟨rfl, rfl⟩, fun _ r h => ?_, by decide⟩, rfl, _, rfl, by decide⟩
  · cases k <;> simp [facing, asking, node, State.reset, State.cold, MapStore.reset, MapStore.bank, MapBank.allPass,
      MapEntry.zero]
  · cases h; exact ⟨by decide, fun _ => rfl⟩

theorem test_ValuesStayInRange_met :
    let s := facing (.frameEnd (ends [])) (output3 (.live 2000 39) (record (.sent answer4) node))
    LiveWithinLimit s ∧ ParametersInRange s ∧ AnswerFits s ∧ EventsFresh s
      ∧ ∃ t, step s = .next t ∧ t.outputs[3] = .safe := by
  refine ⟨fun c v age h hl => ?_, ⟨by decide, by decide, by decide, by decide, fun r h => (by cases h)⟩,
    ⟨fun a h => ?_⟩, fresh rfl rfl rfl, _, rfl, by decide⟩
  · have hc : ∀ c : Channel, c ≠ 3 → (facing (.frameEnd (ends []))
        (output3 (.live 2000 39) (record (.sent answer4) node))).outputs[c] = .unassigned := by decide
    by_cases h3 : c = 3
    · subst h3; cases h; decide
    · rw [hc c h3] at h; cases h
  · rcases h with h | h <;> cases h
    exact ⟨by decide, fun _ _ => rfl, fun h => (by cases h)⟩

theorem test_LinkStateStaysLawful_met : LinkLaw (facing .syncMissInFlywheel (expecting .flywheel 3))
    ∧ ∃ t, step (facing .syncMissInFlywheel (expecting .flywheel 3)) = .next t ∧ t.link.state = .hunt :=
  ⟨⟨rfl, rfl, fun _ => rfl, by decide, by decide, fun h => (by cases h), fun _ => by decide, fun f h => (by cases h)⟩,
    _, rfl, rfl⟩

end Sys2Proof.Tests
end

section
/-! PROOFS. What one happening can do to the frame in flight, said once for every row of the table, and the invariants
of the frame's words and number that follow from it (R1, R11, R31, R37; O58). -/

namespace Sys2Proof.Machine

/-- A happening leaves the node as it stands or takes it where its meaning says. -/
theorem happens_cases {s t u : State} (h : happens s t = .next u) : u = s ∨ u = t := by
  unfold happens at h
  cases h
  cases s.resetHeld <;> simp

/-- `t` has the frame in flight of `s`, the words it was sent with, and what its number and bank are compared with. -/
structure SameFrame (s t : State) : Prop where
  frame : t.frame = s.frame
  sent : t.tx.sent = s.tx.sent
  number : t.link.E = s.link.E
  bank : t.map.active = s.map.active

theorem SameFrame.refl (s : State) : SameFrame s s := ⟨rfl, rfl, rfl, rfl⟩

/-- What one happening can do to the frame in flight. -/
inductive FrameMove (s t : State) : Prop
  /-- it does not touch the frame -/
  | stands (same : SameFrame s t)
  /-- no frame is in flight after it (R15, R30) -/
  | ended (frame : t.frame = none)
  /-- a frame has begun, and its header is next (R1, R25) -/
  | begun (f : FrameInFlight) (frame : t.frame = some f) (pos : f.pos = 1) (crc : f.txCrc = Config.crcPreset)
      (sent : t.tx.sent = [Config.syncWord]) (number : f.number = t.link.E) (bank : f.bank = t.map.active)
  /-- the words `out` of frame `f` have passed, which is `g` after them (R1, R11) -/
  | passed (f g : FrameInFlight) (out : List Word) (was : s.frame = some f) (now : t.frame = some g)
      (pos : g.pos = f.pos + out.length) (place : g.pos ≤ 66 ∨ g.pos = 71 ∨ g.pos = 76)
      (crc : g.txCrc = crcWords f.txCrc out) (sent : t.tx.sent = s.tx.sent ++ out)
      (number : f.number = s.link.E → g.number = t.link.E) (bank : f.bank = s.map.active → g.bank = t.map.active)

theorem FrameMove.refl (s : State) : FrameMove s s := .stands (.refl s)

/-- A move from a state with the same frame. -/
theorem FrameMove.after {s u t : State} (h : SameFrame s u) (m : FrameMove u t) : FrameMove s t := by
  obtain ⟨hf, hs, hn, hb⟩ := h
  cases m with
  | stands k => exact .stands ⟨k.frame.trans hf, k.sent.trans hs, k.number.trans hn, k.bank.trans hb⟩
  | ended frame => exact .ended frame
  | begun f frame pos crc sent number bank => exact .begun f frame pos crc sent number bank
  | passed f g out was now pos place crc sent number bank =>
    rw [hf] at was
    rw [hs] at sent
    rw [hn] at number
    rw [hb] at bank
    exact .passed f g out was now pos place crc sent number bank

theorem FrameMove.of_happens {s t u : State} (h : happens s t = .next u) (m : FrameMove s t) : FrameMove s u := by
  rcases happens_cases h with rfl | rfl
  · exact .refl _
  · exact m

/-! ### The words and the number of the frame in flight under a move -/

/-- The words of the frame stay in order, counted and covered by its check remainder (R1, R11). -/
theorem FrameMove.keeps_words {s t : State} (m : FrameMove s t) (h : FrameWords s) : FrameWords t := by
  cases m with
  | stands same =>
    obtain ⟨hf, hs, -, -⟩ := same
    constructor <;> rw [hf]
    · rw [hs]; exact h.sync
    · rw [hs]; exact h.count
    · exact h.position
    · rw [hs]; exact h.remainder
  | ended frame => constructor <;> simp [frame]
  | begun f frame pos crc sent => constructor <;> simp [frame, pos, crc, sent, crcWords, Config.syncWord,
      Config.crcPreset]
  | passed f g out was now pos place crc sent =>
    have hsync := h.sync f was
    have hcount := h.count f was
    have hpos := h.position f was
    have hcrc := h.remainder f was
    have hne : s.tx.sent ≠ [] := by rintro hn; simp [hn] at hsync
    constructor <;> rw [now] <;> rintro _ ⟨⟩
    · rw [sent, List.head?_append_of_ne_nil _ hne, hsync]
    · rw [sent, List.length_append, hcount, pos]
    · exact ⟨by omega, place⟩
    · rw [sent, List.tail_append_of_ne_nil hne, crcWords_append, crc, hcrc]

/-- E stays the number of the frame, and the active bank its bank (R31, R37). -/
theorem FrameMove.keeps_number {s t : State} (m : FrameMove s t) (h : FrameKeepsItsNumber s) :
    FrameKeepsItsNumber t := by
  cases m with
  | stands same => intro f hf; rw [same.number, same.bank]; exact h f (same.frame ▸ hf)
  | ended frame => intro f hf; rw [frame] at hf; cases hf
  | begun f frame pos crc sent number bank => intro g hg; rw [frame] at hg; cases hg; exact ⟨number, bank⟩
  | passed f g out was now pos place crc sent number bank =>
    intro g' hg
    rw [now] at hg
    cases hg
    exact ⟨number (h f was).1, bank (h f was).2⟩

/-! ### The happenings' own operations -/

theorem FrameMove.of_beginFrame (s u : State) (b : Bool) (t : BitTime) : FrameMove s (u.beginFrame b t) :=
  .begun _ rfl rfl rfl rfl rfl rfl

/-- Words that pass move the frame on, where E and the active bank stand. -/
theorem FrameMove.of_passWords {s u : State} {f : FrameInFlight} (rx out : List Word) (h : SameFrame s u)
    (hf : s.frame = some f)
    (hp : f.pos + out.length ≤ 66 ∨ f.pos + out.length = 71 ∨ f.pos + out.length = 76) :
    FrameMove s (u.passWords f rx out) := by
  obtain ⟨-, hs, hn, hb⟩ := h
  exact .passed f (f.pass rx out) out hf rfl rfl hp rfl (by simp [hs]) (by simp [hn]) (by simp [hb])

theorem State.failVerify_sameFrame (s : State) : SameFrame s s.failVerify := by
  unfold State.failVerify
  dsimp only
  split <;> exact ⟨rfl, rfl, rfl, rfl⟩

theorem State.lockAt_sameFrame (s : State) (p : BitTime) : SameFrame s (s.lockAt p) := by
  unfold State.lockAt
  dsimp only
  split <;> exact ⟨rfl, rfl, rfl, rfl⟩

theorem State.relock_move (s : State) (p : BitTime) : FrameMove s (s.relock p) := by
  unfold State.relock
  split
  · exact .of_beginFrame ..
  · exact .stands ⟨rfl, by dsimp only; split <;> rfl, rfl, rfl⟩

theorem State.missSync_move (s : State) (p : BitTime) (n : Nat) : FrameMove s (s.missSync p n) := by
  unfold State.missSync
  dsimp only
  split
  · exact .of_beginFrame ..
  · exact .begun _ rfl rfl rfl rfl rfl rfl

/-- Whether a commit fires or not, the line, the frame and the Link Receiver stand. -/
theorem State.fireIfDue_line (s : State) :
    s.fireIfDue.frame = s.frame ∧ s.fireIfDue.tx = s.tx ∧ s.fireIfDue.link = s.link := by
  unfold State.fireIfDue
  split <;> simp

theorem State.headerTime_move {s : State} {f : FrameInFlight} (w : Word) (hf : s.frame = some f) (hp : f.pos = 1) :
    FrameMove s (s.headerTime f w) := by
  obtain ⟨-, ht, hl⟩ := State.fireIfDue_line { s with map := s.map.atHeader }
  refine .passed f _ [f.headerWord s.link.E s.cmd.address w] hf rfl rfl (.inl ?_) rfl ?_ (fun _ => ?_) fun _ => rfl
  · simp [hp]
  · simp [State.headerTime, ht]
  · simp [State.headerTime, hl]

@[simp] theorem MapStore.copyEntry_active (m : MapStore) (i : SlotNumber) : (m.copyEntry i).active = m.active := by
  unfold MapStore.copyEntry
  split <;> simp

theorem FrameInFlight.nextSlot_eq_some {f : FrameInFlight} {i : SlotNumber} :
    f.nextSlot = some i ↔ f.pos = i.val + 2 := by
  unfold FrameInFlight.nextSlot
  split
  · simp [Fin.ext_iff]; omega
  · simp; omega

theorem State.slotPasses_move {s : State} {f : FrameInFlight} {i : SlotNumber} (w : Word) (hf : s.frame = some f)
    (hi : f.nextSlot = some i) : FrameMove s (s.slotPasses f i w) := by
  have hp := FrameInFlight.nextSlot_eq_some.1 hi
  have := i.isLt
  exact .of_passWords _ _ ⟨rfl, rfl, rfl, by simp⟩ hf (.inl (by simp; omega))

/-- A region is five words, as it arrived (R1). -/
theorem FrameInFlight.inboundRegion_length (f : FrameInFlight) (a b c d e : Word) :
    (f.inboundRegion [a, b, c, d, e]).length = 5 := by
  unfold FrameInFlight.inboundRegion
  split <;> rfl

theorem State.commandRegion_move {s : State} {f : FrameInFlight} (w p0 p1 p2 p3 : Word) (hf : s.frame = some f)
    (hp : f.pos = 66) : FrameMove s (s.commandRegion f w p0 p1 p2 p3) := by
  unfold State.commandRegion
  dsimp only
  split
  · exact .of_passWords _ _ ⟨rfl, rfl, rfl, rfl⟩ hf (.inr (.inl (by simp [hp])))
  · exact .of_passWords _ _ (.refl s) hf (.inr (.inl (by rw [f.inboundRegion_length, hp])))

theorem padData_length (data : List Word) : (padData data).length = 4 := by
  simp [padData]

/-- The node's item fills a region (R117). -/
theorem State.itemWords_length {s : State} {ws : List Word} (h : s.itemWords = some ws) : ws.length = 5 := by
  unfold State.itemWords at h
  split at h
  · cases h; simp [responseWords, padData_length]
  all_goals
    obtain ⟨r, -, rfl⟩ := Option.map_eq_some_iff.1 h
    simp [noticeWords, padData_length]

theorem State.responseRegion_move {s : State} {f : FrameInFlight} (w d0 d1 d2 d3 : Word) (hf : s.frame = some f)
    (hp : f.pos = 71) : FrameMove s (s.responseRegion f w d0 d1 d2 d3) := by
  have pass : ∀ (u : State) (rx out : List Word), SameFrame s u → out.length = 5 → FrameMove s (u.passWords f rx out) :=
    fun u rx out h hl => .of_passWords rx out h hf (.inr (.inr (by rw [hl, hp])))
  unfold State.responseRegion
  dsimp only
  split
  · next ws hw =>
    split
    · exact pass _ _ _ ⟨rfl, rfl, rfl, rfl⟩ (State.itemWords_length hw)
    · exact pass _ _ _ ⟨rfl, rfl, rfl, rfl⟩ (f.inboundRegion_length ..)
  · exact pass _ _ _ ⟨rfl, rfl, rfl, rfl⟩ (f.inboundRegion_length ..)

/-! ### Every happening -/

theorem exec_powerOn_frame (t : BitTime) {s u : State} (h : exec (.powerOn t) s = .next u) : u.frame = none := by
  unfold exec execPowerOn at h
  cases h
  cases s.resetHeld <;> rfl

/-- A row of a frame end leaves the node as it stands, or ends the frame (R30). -/
theorem exec_close_frameMove {i : Instr} {e : FrameClose} {s t : State} (hc : i.close? = some e)
    (h : exec i s = .next t) : FrameMove s t := by
  rcases exec_close_cases hc h with rfl | ⟨f, -, -, -, rfl⟩
  · exact .refl _
  · exact .ended (closeFrame_host f e s).2.2.1

/-- What a happening does to the frame in flight, for every row of the table. -/
theorem exec_frameMove {i : Instr} {s t : State} (h : exec i s = .next t) : FrameMove s t := by
  cases i
  case powerOn p => exact .ended (exec_powerOn_frame p h)
  case resetPinLow p => exact .of_happens h (.ended rfl)
  case resetPinRelease p =>
    unfold exec execResetPinRelease at h
    cases h
    split
    · exact .ended rfl
    · exact .refl s
  case startupIdleFillEnds =>
    refine .of_happens h ?_
    split
    · exact .of_beginFrame ..
    · exact .refl s
  case regeneratedFrameStart =>
    refine .of_happens h ?_
    split
    · split
      · exact .of_beginFrame ..
      · exact .refl s
    · exact .refl s
  case syncFoundInHunt p => exact .of_happens h (by split <;> exact .stands ⟨rfl, rfl, rfl, rfl⟩)
  case candidateCheckWord content check =>
    refine .of_happens h ?_
    split
    · split
      · exact .stands ⟨rfl, rfl, rfl, rfl⟩
      · exact .stands s.failVerify_sameFrame
    · exact .refl s
  case secondSyncJudged window =>
    refine .of_happens h ?_
    split
    · split
      · split
        · exact .after (s.lockAt_sameFrame _) (State.relock_move _ _)
        · exact .stands s.failVerify_sameFrame
      · exact .refl s
    · exact .refl s
  case syncFoundInLocked =>
    refine .of_happens h ?_
    split
    · split
      · dsimp only
        split
        · exact .after (u := { s with link := s.link.foundAt _ }) ⟨rfl, rfl, rfl, rfl⟩ (State.relock_move _ _)
        · exact .of_beginFrame ..
      · exact .refl s
    · exact .refl s
  case syncMissInLocked =>
    refine .of_happens h ?_
    split
    · split
      · exact s.missSync_move _ _
      · exact .refl s
    · exact .refl s
  case syncFoundInFlywheel =>
    refine .of_happens h ?_
    split
    · split
      · exact .of_beginFrame ..
      · exact .refl s
    · exact .refl s
  case syncMissInFlywheel =>
    refine .of_happens h ?_
    split
    · split
      · exact s.missSync_move _ _
      · exact .refl s
    · exact .refl s
  case syncFoundElsewhereInFlywheel p =>
    exact .of_happens h (by split <;> exact .stands ⟨rfl, rfl, rfl, rfl⟩)
  case headerTime w =>
    refine .of_happens h ?_
    split
    · next f hf => obtain ⟨h1, h2⟩ := State.frameAt_eq_some.1 hf; exact State.headerTime_move w h1 h2
    · exact .refl s
  case commitFire w =>
    refine .of_happens h ?_
    split
    · next f _ hf _ => obtain ⟨h1, h2⟩ := State.frameAt_eq_some.1 hf; exact State.headerTime_move w h1 h2
    · exact .refl s
  case slotInFlight w =>
    refine .of_happens h ?_
    split
    · next f hf =>
      split
      · next i hi => exact State.slotPasses_move w hf hi
      · exact .refl s
    · exact .refl s
  case commandRegionHeader w names p0 p1 p2 p3 =>
    refine .of_happens h ?_
    split
    · next f hf =>
      obtain ⟨h1, h2⟩ := State.frameAt_eq_some.1 hf
      split
      · exact .refl s
      · exact State.commandRegion_move w p0 p1 p2 p3 h1 h2
    · exact .refl s
  case responseRegionHeader w d0 d1 d2 d3 =>
    refine .of_happens h ?_
    split
    · next f hf =>
      obtain ⟨h1, h2⟩ := State.frameAt_eq_some.1 hf
      exact State.responseRegion_move w d0 d1 d2 d3 h1 h2
    · exact .refl s
  case sampleArrival c v => exact .of_happens h (.stands ⟨rfl, rfl, rfl, rfl⟩)
  all_goals exact exec_close_frameMove rfl h

/-- What one step does to the frame in flight. -/
theorem step_frameMove {s t : State} (h : step s = .next t) : FrameMove s t := by
  unfold step at h
  split at h
  · cases h; exact .refl s
  · next i rest _ => exact .after (u := { s with pending := rest }) ⟨rfl, rfl, rfl, rfl⟩ (exec_frameMove h)

/-- Settles O58: each kind of move a step can make keeps the frame's words and its number. -/
theorem frameInFlightStaysWhole : Obligations.FrameInFlightStaysWhole := by
  unfold Obligations.FrameInFlightStaysWhole
  intro s t ⟨hw, hn⟩ h
  exact ⟨(step_frameMove h).keeps_words hw, (step_frameMove h).keeps_number hn⟩

end Sys2Proof.Machine
end

section
/-! SUPPORT. The words a node builds, read field by field: the header word of a regenerated frame (R2), the status
word (R8), and the response region with an answer or a notice (R5, R103, R123). -/

namespace Sys2Proof.Machine

/-! ### The header word (R2, R26) -/

@[simp] theorem headerNumber_built (e : FrameNumber) (a : Address) : headerNumber (builtHeader e a) = e := by
  unfold headerNumber builtHeader
  iterate 4 rw [extract_upper _ _ _ _ (by decide)]
  exact extract_whole e

@[simp] theorem headerRegenerated_built (e : FrameNumber) (a : Address) :
    headerRegenerated (builtHeader e a) = true := by
  unfold headerRegenerated builtHeader
  iterate 3 rw [bit_upper _ _ _ (by decide)]
  exact bit_lower e 1#1 0 (by decide)

@[simp] theorem headerOriginator_built (e : FrameNumber) (a : Address) :
    headerOriginator (builtHeader e a) = a := by
  unfold headerOriginator builtHeader
  iterate 2 rw [extract_upper _ _ _ _ (by decide)]
  exact (extract_lower _ a _ _ (by decide)).trans (extract_whole a)

@[simp] theorem headerReservation_built (e : FrameNumber) (a : Address) :
    headerReservation (builtHeader e a) = 0 := by
  unfold headerReservation builtHeader
  rw [extract_upper _ _ _ _ (by decide)]
  exact (extract_lower _ 0#6 _ _ (by decide)).trans (extract_whole _)

@[simp] theorem headerCommandPresent_built (e : FrameNumber) (a : Address) :
    headerCommandPresent (builtHeader e a) = false := by
  unfold headerCommandPresent builtHeader
  exact bit_lower _ 0#1 0 (by decide)

/-! ### The status word (R8) -/

theorem countP_eq_sum {α : Type} (p : α → Bool) (l : List α) :
    l.countP p = (l.map fun x => if p x then 1 else 0).sum := by
  induction l with
  | nil => rfl
  | cons x xs ih => rw [List.countP_cons, ih, List.map_cons, List.sum_cons, Nat.add_comm]

theorem OutputChannel.isSafe_iff (o : OutputChannel) : o.isSafe = true ↔ o = .safe := by
  cases o <;> simp [OutputChannel.isSafe]

/-- The number of SAFE channels is taken channel by channel (R90). -/
theorem safeCount_eq_sum (o : Vector OutputChannel 8) :
    safeCount o = ∑ c : Channel, if o[c] = .safe then 1 else 0 := by
  have hl : o.toList = (List.finRange 8).map fun c => o[c] := by
    apply List.ext_getElem <;> simp
  rw [safeCount, hl, List.countP_map, countP_eq_sum, Fin.sum_univ_def]
  simp [OutputChannel.isSafe_iff]

theorem LinkState.code_eq (l : LinkState) :
    l.code = match l with | .hunt => 0 | .verify => 1 | .locked => 2 | .flywheel => 3 := by
  cases l <;> rfl

theorem ResponseRecord.code_eq (r : ResponseRecord) :
    r.code = match r with | .empty => 0 | .pending _ _ => 1 | .unsent _ => 2 | .sent _ => 3 := by
  cases r <;> rfl

theorem Bank.bit_eq (k : Bank) : k.bit = decide (k = .b) := by cases k <;> rfl

/-- The lowest bit of a packed word whose last field is one bit. -/
theorem bit_last {n : Nat} (a : BitVec n) (b : Bool) : (a ++ BitVec.ofBool b).getLsbD 0 = b := by
  rw [bit_lower _ _ _ (by decide), BitVec.getLsbD_ofBool]
  simp

/-- The status word holds every field of R8 as the node stands. -/
theorem statusWordIs_statusWord (s : State) : StatusWordIs s s.statusWord := by
  unfold StatusWordIs State.statusWord
  refine ⟨?_, ?_, ?_, ?_, ?_, ?_, ?_, ?_, ?_, ?_⟩
  · iterate 9 rw [extract_upper _ _ _ _ (by decide)]
    exact (extract_whole _).trans s.link.state.code_eq
  · iterate 8 rw [bit_upper _ _ _ (by decide)]
    exact bit_last _ _
  · iterate 7 rw [bit_upper _ _ _ (by decide)]
    exact (bit_last _ _).trans s.map.active.bit_eq
  · iterate 6 rw [bit_upper _ _ _ (by decide)]
    exact bit_last _ _
  · iterate 5 rw [extract_upper _ _ _ _ (by decide)]
    exact (extract_lower _ _ _ _ (by decide)).trans ((extract_whole _).trans s.cmd.response.code_eq)
  · iterate 4 rw [extract_upper _ _ _ _ (by decide)]
    exact (extract_lower _ _ _ _ (by decide)).trans (extract_whole _)
  · iterate 3 rw [extract_upper _ _ _ _ (by decide)]
    exact (extract_lower _ _ _ _ (by decide)).trans (extract_whole _)
  · iterate 2 rw [bit_upper _ _ _ (by decide)]
    exact bit_last _ _
  · rw [extract_upper _ _ _ _ (by decide), ← safeCount_eq_sum]
    exact (extract_lower _ _ _ _ (by decide)).trans (extract_whole _)
  · exact (extract_lower _ _ _ _ (by decide)).trans (extract_whole _)

/-! ### The response region (R5, R103, R123) -/

/-- The five words of a region: the fields of its header, the data words, and zero beyond them (R5). -/
theorem regionLaid_regionHeader (address : Address) (seq : SequenceNumber) (code : Nat) (tag : Tag)
    (data : List Word) :
    RegionLaid (regionHeader address seq (BitVec.ofNat 8 code) data.length tag :: padData data)
      address seq code tag data := by
  unfold RegionLaid
  simp only [List.getD_cons_zero, List.getD_cons_succ, List.length_cons]
  unfold regionHeader
  refine ⟨?_, ?_, ?_, ?_, ?_, ?_, fun j hj => ?_⟩
  · simp [padData]
  · iterate 4 rw [extract_upper _ _ _ _ (by decide)]
    exact extract_whole _
  · iterate 3 rw [extract_upper _ _ _ _ (by decide)]
    exact (extract_lower _ _ _ _ (by decide)).trans (extract_whole _)
  · iterate 2 rw [extract_upper _ _ _ _ (by decide)]
    exact (extract_lower _ _ _ _ (by decide)).trans (extract_whole _)
  · rw [extract_upper _ _ _ _ (by decide)]
    exact (extract_lower _ _ _ _ (by decide)).trans (extract_whole _)
  · exact (extract_lower _ _ _ _ (by decide)).trans (extract_whole _)
  · have hz : ∀ k, ([0, 0, 0, 0] : List Word).getD k 0 = 0 := by
      intro k; rcases k with _ | _ | _ | _ | k <;> rfl
    simp only [padData, List.getD_eq_getElem?_getD, List.getElem?_take_of_lt hj, List.getElem?_append] at hz ⊢
    split
    · rfl
    · next h => rw [hz, List.getElem?_eq_none (by omega)]; rfl

/-- The code of a status is its place in the table of R103. -/
theorem Status.code_eq (st : Status) : st.code = BitVec.ofNat 8 (statuses.idxOf st) := by cases st <;> rfl

/-- The code of a notice kind is its place in the table of R123, from 80h on. -/
theorem noticeCode_eq (k : NoticeKind) : noticeCode k = BitVec.ofNat 8 (128 + noticeKinds.idxOf k) := by
  cases k <;> rfl

/-- A response is laid out as R5 says. -/
theorem regionLaid_responseWords (address : Address) (a : Answer) :
    RegionLaid (responseWords address a) address a.seq (statuses.idxOf a.status) a.tag a.data := by
  rw [responseWords, a.status.code_eq]
  exact regionLaid_regionHeader ..

theorem frameWord_eq (n : FrameNumber) : frameWord n = 0#14 ++ n := by
  refine BitVec.eq_of_getLsbD_eq fun i hi => ?_
  rw [frameWord, BitVec.getLsbD_setWidth, BitVec.getLsbD_append]
  by_cases h : i < 18
  · simp [h, hi]
  · simp [h, BitVec.getLsbD_of_ge n i (by omega)]

/-- The dropped count over a last data word that holds a value of `k` bits: `m` zeros stand between them (R123). -/
theorem dropped_over_value {k : Nat} (m : Nat) (d : BitVec 8) (x : BitVec k) (h : 8 + m + k = 32) :
    d ++ (x.zeroExtend 32).extractLsb' 0 24 = (d ++ 0#m ++ x).cast h := by
  refine BitVec.eq_of_getLsbD_eq fun i _ => ?_
  simp only [BitVec.getLsbD_cast, BitVec.getLsbD_append, BitVec.getLsbD_extractLsb', BitVec.getLsbD_setWidth,
    BitVec.getLsbD_zero]
  by_cases h1 : i < k
  · simp [h1, show i < 24 by omega, show i < 32 by omega]
  · by_cases h2 : i < 24
    · simp [h1, h2, show i - k < m by omega, BitVec.getLsbD_of_ge x i (by omega)]
    · simp [h1, h2, show ¬i - k < m by omega, show i - k - m = i - 24 by omega]

theorem dropped_over_frameWord (d : BitVec 8) (n : FrameNumber) :
    d ++ (frameWord n).extractLsb' 0 24 = d ++ 0#6 ++ n :=
  dropped_over_value 6 d n rfl

/-- A notice's data words as written are those of R123, the dropped count in the last. -/
theorem placeDropped_words (n : Notice) (dropped : Nat) : placeDropped dropped n.words = noticeData n dropped := by
  cases n with
  | restarted cause =>
    have hc : numWord cause.code = (BitVec.ofNat 2 cause.code).zeroExtend 32 := by cases cause <;> rfl
    simp only [Notice.words, placeDropped, noticeData, hc, dropped_over_value 22 _ (BitVec.ofNat 2 _) rfl]
    cases cause <;> rfl
  | syncLost e misses =>
    simp only [Notice.words, placeDropped, noticeData, frameWord_eq, BitVec.cast_eq,
      dropped_over_value 20 _ (BitVec.ofNat 4 misses) rfl]
  | syncRegained e count =>
    simp only [Notice.words, placeDropped, noticeData, frameWord_eq, BitVec.cast_eq,
      dropped_over_value 0 _ (BitVec.ofNat 24 count) rfl, BitVec.append_zero_width]
  | numberJump old received =>
    rw [noticeData, ← frameWord_eq]
    simp only [Notice.words, placeDropped, dropped_over_frameWord]
  | commitDone e lateness bank =>
    simp only [Notice.words, placeDropped, noticeData, frameWord_eq,
      dropped_over_value 23 _ (BitVec.ofBool bank.bit) rfl]
    cases bank <;> rfl
  | outputExpired mask =>
    simp only [Notice.words, placeDropped, noticeData, BitVec.cast_eq, dropped_over_value 16 _ mask rfl]
  | snapshotReady e depth serial =>
    simp only [Notice.words, placeDropped, noticeData, frameWord_eq, BitVec.cast_eq,
      dropped_over_value 13 _ (BitVec.ofNat 3 depth ++ serial) rfl,
      BitVec.append_assoc (x₁ := _ ++ 0#13)]
  | snapshotLost count =>
    simp only [Notice.words, placeDropped, noticeData, BitVec.cast_eq,
      dropped_over_value 16 _ (BitVec.ofNat 8 count) rfl]

/-- A notice is laid out as R5 and R123 say. -/
theorem regionLaid_noticeWords (address : Address) (dropped : Nat) (r : NoticeRecord) :
    RegionLaid (noticeWords address dropped r) address r.seq (128 + noticeKinds.idxOf r.kind)
      (BitVec.ofNat 7 r.repeats) (noticeData r.notice dropped) := by
  have hl : r.notice.words.length = (noticeData r.notice dropped).length := by cases r.notice <;> rfl
  rw [noticeWords, placeDropped_words, hl, noticeCode_eq]
  exact regionLaid_regionHeader ..

end Sys2Proof.Machine
end

section
/-! PROOFS. The words of the frame in flight: the header time, the slots, the command region and the response region
(O10, O12, O15, O16). -/

namespace Sys2Proof.Machine

/-! ### The header time (R31, R37) -/

/-- Where no armed F is reached the firing test does nothing (R70). -/
theorem State.fireIfDue_eq {s : State} (h : ∀ F, s.map.commit = some F → 131072 ≤ (s.link.E - F).toNat) :
    s.fireIfDue = s := by
  have hn : s.map.firing s.link.E = none := Option.eq_none_iff_forall_ne_some.2 fun F hF => by
    obtain ⟨hc, hlt⟩ := MapStore.firing_eq_some.1 hF
    exact absurd hlt (Nat.not_lt.2 (h F hc))
  simp [State.fireIfDue, hn]

theorem MapEntry.zero_bits : MapEntry.zero.bits = 0 := by decide

/-- The banks after the header time behind a NODE RESET stand at their reset contents (R35). -/
theorem MapStore.atHeader_banksReset {m : MapStore} (h : m.resetDue = true) : BanksReset m.atHeader := by
  rw [MapStore.atHeader_due h]
  exact ⟨fun i => by simp [MapBank.allPass, MapEntry.zero_bits], rfl⟩

theorem exec_headerTime_eq {s : State} {f : FrameInFlight} (w : Word) (hup : s.resetHeld = false)
    (hf : s.frame = some f) (hp : f.pos = 1) : exec (.headerTime w) s = .next (s.headerTime f w) := by
  simp [exec, execHeaderTime, happens_up hup, State.frameAt_eq_some.2 ⟨hf, hp⟩]

/-- Settles O10: with nothing to fire, the header time is the map's own step and one word that passes. -/
theorem headerTimeNumbersTheFrame : Obligations.HeaderTimeNumbersTheFrame := by
  unfold Obligations.HeaderTimeNumbersTheFrame
  intro s f w hup hf hp hfire
  have hstill : State.fireIfDue { s with map := s.map.atHeader } = { s with map := s.map.atHeader } :=
    State.fireIfDue_eq (by simpa using hfire)
  refine ⟨s.headerTime f w, f.headerWord s.link.E s.cmd.address w, exec_headerTime_eq w hup hf hp, ?_⟩
  simp only [State.headerTime, hstill, State.passWords_tx, State.passWords_frame, State.passWords_map]
  refine ⟨trivial, rfl, fun hr => ?_, fun hr => ?_, MapStore.atHeader_eq, fun hd => ?_, rfl⟩
  · simp [FrameInFlight.headerWord, hr]
  · simp [FrameInFlight.headerWord, hr]
  · exact ⟨MapStore.atHeader_banksReset hd, by simp⟩

/-! ### One slot (R39 to R48) -/

theorem exec_slotInFlight_eq {s : State} {f : FrameInFlight} {i : SlotNumber} (w : Word) (hup : s.resetHeld = false)
    (hf : s.frame = some f) (hi : f.pos = i.val + 2) : exec (.slotInFlight w) s = .next (s.slotPasses f i w) := by
  simp [exec, execSlotInFlight, happens_up hup, hf, FrameInFlight.nextSlot_eq_some.2 hi]

section
variable {e : MapEntry} {a : Address} {c : InputState} {st : Sample} {x : Word}

/-- PASS and TAP send the slot as it arrived (R41, R46). -/
theorem groom_pass_tap (h : e.action = .pass ∨ e.action = .tap) : (groom e a c st x).out = x := by
  rcases h with h | h <;> simp [groom, h]

/-- CLEAR and DRAIN send it empty (R42, R47). -/
theorem groom_clear_drain (h : e.action = .clear ∨ e.action = .drain) : (groom e a c st x).out = emptySlot := by
  rcases h with h | h <;> simp [groom, h]

/-- An INSERT, or a FILL of an empty slot, is decided by the state of the input channel (R43, R44). -/
theorem groom_insertion (h : e.action = .insert ∨ (e.action = .fill ∧ x = emptySlot)) :
    ∃ done, groom e a c st x = insertGrooming done a c := by
  rcases h with h | ⟨h, rfl⟩
  · exact ⟨.inserted, by simp [groom, h]⟩
  · exact ⟨.filled, by simp [groom, h, emptyIn]⟩

/-- A FILL of an occupied slot sends it as it arrived (R44). -/
theorem groom_fill_occupied (h : e.action = .fill) (hx : x ≠ emptySlot) : (groom e a c st x).out = x := by
  simp [groom, h, emptyIn, hx]

/-- STATUS sends the status word (R48). -/
theorem groom_status (h : e.action = .status) : (groom e a c st x).out = sampleSlot false a st := by
  simp [groom, h]

end

/-- Settles O12: the slot that passes sends the outbound word of its grooming, which is read off action by action. -/
theorem slotLeavesAsItsEntrySays : Obligations.SlotLeavesAsItsEntrySays := by
  unfold Obligations.SlotLeavesAsItsEntrySays
  intro s f i w x m hup hf hi hx hm
  obtain rfl : x = f.inboundSlot w := hx
  subst hm
  refine ⟨s.slotPasses f i w, _, exec_slotInFlight_eq w hup hf hi, rfl, rfl, groom_pass_tap, groom_clear_drain,
    fun h => ?_, groom_fill_occupied, fun h => ⟨s.statusWord, statusWordIs_statusWord s, groom_status h⟩, rfl⟩
  obtain ⟨done, hg⟩ := groom_insertion h
  rw [State.grooming, hg]
  refine ⟨fun v mark hv => ?_, fun v hv => ?_, fun hv => ?_⟩ <;> rw [hv] <;> rfl

/-! ### The command region (R92 to R94) -/

theorem isNodeAddress_iff {a : Address} : isNodeAddress a = true ↔ 1 ≤ a.toNat ∧ a.toNat ≤ 61 := by
  simp [isNodeAddress]

section
variable {address target : Address} {name : Option CommandName}

theorem targetClass_broadcast (h : target = 63) : targetClass address target name = .broadcast :=
  if_pos (beq_iff_eq.2 h)

theorem targetClass_unicast (h : target = address) (h1 : 1 ≤ address.toNat) (h2 : address.toNat ≤ 61) :
    targetClass address target name = .unicast := by
  have h63 : target ≠ 63 := by rintro rfl; subst h; exact absurd h2 (by decide)
  rw [targetClass, if_neg (by simpa using h63), if_pos (by simpa [isNodeAddress_iff] using ⟨⟨h1, h2⟩, h⟩)]

theorem targetClass_firstUnaddressed (h : target = 0) (ha : address = 0) (hn : name = some .assignAddress) :
    targetClass address target name = .firstUnaddressed := by
  subst h ha hn; decide

/-- A command that names this node in none of the three ways is not for it (R93). -/
theorem targetClass_none (h63 : target ≠ 63) (hu : isNodeAddress address = true → target ≠ address)
    (hf : address = 0 → target = 0 → name ≠ some .assignAddress) : targetClass address target name = .none := by
  rw [targetClass, if_neg (by simpa using h63), if_neg (by simpa using hu), if_neg (by simpa using hf)]

/-- Target 0 means this node only where it is unaddressed and the command assigns an address (R93). -/
theorem targetClass_zero (h : target = 0) (ho : address ≠ 0 ∨ name ≠ some .assignAddress) :
    targetClass address target name = .none := by
  subst h
  refine targetClass_none (by decide) ?_ fun ha _ => ho.resolve_left (not_not_intro ha)
  rintro hn rfl
  exact absurd hn (by decide)

/-- A target of another node, or of no node, is not for this one (R93). -/
theorem targetClass_other (h0 : target ≠ 0) (h63 : target ≠ 63) (ho : target ≠ address ∨ 61 < address.toNat) :
    targetClass address target name = .none :=
  targetClass_none h63 (fun hn => ho.resolve_right (Nat.not_lt.2 (isNodeAddress_iff.1 hn).2)) fun _ h => absurd h h0

end

/-- A claimed header is the received one with its target 62 (R94). -/
theorem claimedHeader_fields (w : Word) :
    (claimedHeader w).extractLsb' 26 6 = 62 ∧ (claimedHeader w).extractLsb' 0 26 = w.extractLsb' 0 26 := by
  unfold claimedHeader
  refine ⟨?_, ?_⟩
  · rw [extract_upper _ _ _ _ (by decide)]; exact extract_whole _
  · rw [extract_lower _ _ _ _ (by decide)]; exact extract_whole _

/-- Every command but a claimed one is sent with its header as received (R94). -/
theorem Request.headerOut_eq {r : Request} (h : r.cls ≠ .firstUnaddressed) (w : Word) : r.headerOut w = w := by
  unfold Request.headerOut
  split <;> simp_all

theorem exec_commandRegionHeader_eq {s : State} {f : FrameInFlight} (w : Word) (names : Option CommandName)
    (p0 p1 p2 p3 : Word) (hup : s.resetHeld = false) (hf : s.frame = some f) (hp : f.pos = 66) :
    exec (.commandRegionHeader w names p0 p1 p2 p3) s
      = .next (if f.carriesCommand && names != commandName w then s else s.commandRegion f w p0 p1 p2 p3) := by
  simp [exec, execCommandRegionHeader, happens_up hup, State.frameAt_eq_some.2 ⟨hf, hp⟩]

/-- Settles O15. -/
theorem commandRegionIsReadInFlight : Obligations.CommandRegionIsReadInFlight := by
  unfold Obligations.CommandRegionIsReadInFlight
  intro s f w p0 p1 p2 p3 name hup hf hp
  rw [exec_commandRegionHeader_eq w name p0 p1 p2 p3 hup hf hp]
  refine ⟨fun hr hc hn => ?_, fun hr hc hn => ?_, fun h => ?_⟩
  · have hcar : f.carriesCommand = true := by simp [FrameInFlight.carriesCommand, hr, headerCommandPresent, hc]
    obtain rfl := codeNames_iff.1 hn
    refine ⟨_, (readCommand s.cmd.address w p0 p1 p2 p3).headerOut w, readCommand s.cmd.address w p0 p1 p2 p3,
      rfl, ?_⟩
    have hrx : f.inboundRegion [w, p0, p1, p2, p3] = [w, p0, p1, p2, p3] := by simp [FrameInFlight.inboundRegion, hr]
    simp only [State.commandRegion, hcar, hrx, bne_self_eq_false, Bool.and_false, if_true, Bool.false_eq_true, if_false]
    refine ⟨rfl, rfl, rfl, rfl, rfl, rfl, rfl, rfl, rfl, rfl, rfl, targetClass_broadcast, targetClass_unicast,
      fun ht ha hn => ?_, targetClass_zero, targetClass_other, fun h => Request.headerOut_eq h w, rfl⟩
    have hcls : (readCommand s.cmd.address w p0 p1 p2 p3).cls = .firstUnaddressed :=
      targetClass_firstUnaddressed ht ha hn
    have hout : (readCommand s.cmd.address w p0 p1 p2 p3).headerOut w = claimedHeader w := by
      simp only [Request.headerOut, hcls]
    rw [hout]
    exact ⟨hcls, claimedHeader_fields w⟩
  · have hcar : f.carriesCommand = true := by simp [FrameInFlight.carriesCommand, hr, headerCommandPresent, hc]
    have hne : name ≠ commandName w := fun h => hn (codeNames_iff.2 h)
    simp [hcar, hne]
  · have hcar : f.carriesCommand = false := by
      rw [FrameInFlight.carriesCommand, headerCommandPresent]
      rcases h with h | h <;> rw [h] <;> simp
    refine ⟨_, f.inboundRegion [w, p0, p1, p2, p3], rfl, rfl, ?_⟩
    simp only [State.commandRegion, hcar, Bool.false_and, Bool.false_eq_true, if_false]
    exact ⟨rfl, rfl, rfl⟩

/-! ### The response region (R116 to R118) -/

theorem exec_responseRegionHeader_eq {s : State} {f : FrameInFlight} (w d0 d1 d2 d3 : Word)
    (hup : s.resetHeld = false) (hf : s.frame = some f) (hp : f.pos = 71) :
    exec (.responseRegionHeader w d0 d1 d2 d3) s = .next (s.responseRegion f w d0 d1 d2 d3) := by
  simp [exec, execResponseRegionHeader, happens_up hup, State.frameAt_eq_some.2 ⟨hf, hp⟩]

/-- The inbound region arrived free where it was empty (R5, R26). -/
theorem inboundRegion_free (f : FrameInFlight) (w d0 d1 d2 d3 : Word) :
    (regionSource ((f.inboundRegion [w, d0, d1, d2, d3]).headD 0) == 0)
      = (f.regenerated || w.extractLsb' 26 6 == 0) := by
  unfold FrameInFlight.inboundRegion
  cases f.regenerated
  · rfl
  · simp [regionSource]

/-- A response region with an item to send is written where it may be, and denied otherwise (R117, R118). -/
theorem State.responseRegion_item {s : State} {f : FrameInFlight} {w d0 d1 d2 d3 : Word} {ws : List Word}
    (hi : s.itemWords = some ws) (may : Bool)
    (hm : may = mayWrite s.cmd.address (headerReservation f.header) s.arb.gap
      ((f.inboundRegion [w, d0, d1, d2, d3]).headD 0)) :
    s.responseRegion f w d0 d1 d2 d3 =
      State.passWords { s with arb := { s.arb with
          item := if may then s.offer else .none, written := may, denied := !may } }
        f (f.inboundRegion [w, d0, d1, d2, d3]) (if may then ws else f.inboundRegion [w, d0, d1, d2, d3]) := by
  unfold State.responseRegion
  dsimp only
  rw [hi, ← hm]
  cases may <;> rfl

/-- Without an item the region is forwarded, and neither event is counted (R118). -/
theorem State.responseRegion_noItem {s : State} {f : FrameInFlight} {w d0 d1 d2 d3 : Word} (hi : s.itemWords = none) :
    s.responseRegion f w d0 d1 d2 d3 =
      State.passWords { s with arb := { s.arb with item := .none, written := false, denied := false } }
        f (f.inboundRegion [w, d0, d1, d2, d3]) (f.inboundRegion [w, d0, d1, d2, d3]) := by
  unfold State.responseRegion
  dsimp only
  rw [hi]

/-- An UNSENT response is the item (R117). -/
theorem State.item_of_unsent {s : State} {a : Answer} (h : s.cmd.response = .unsent a) :
    s.itemWords = some (responseWords s.cmd.address a) ∧ s.offer = .response := by
  simp [State.itemWords, State.offer, h]

/-- Without one the first QUEUED notice is (R117). -/
theorem State.item_of_queued {s : State} {r : NoticeRecord} (h : ∀ a, s.cmd.response ≠ .unsent a)
    (hr : s.notices.records.find? NoticeRecord.isQueued = some r) :
    s.itemWords = some (noticeWords s.cmd.address s.notices.dropped r) ∧ s.offer = .notice r.kind := by
  unfold State.itemWords State.offer
  cases hc : s.cmd.response with
  | unsent a => exact absurd hc (h a)
  | empty | pending _ _ | sent _ => simp [hr]

theorem State.item_none {s : State} (h : ∀ a, s.cmd.response ≠ .unsent a)
    (hr : ∀ r ∈ s.notices.records, r.isQueued = false) : s.itemWords = none := by
  unfold State.itemWords
  cases hc : s.cmd.response with
  | unsent a => exact absurd hc (h a)
  | empty | pending _ _ | sent _ => simpa using hr

/-- Settles O16: the item, if there is one, is the response or the first QUEUED notice, and the four conditions decide
whether it is written. -/
theorem responseRegionIsShared : Obligations.ResponseRegionIsShared := by
  unfold Obligations.ResponseRegionIsShared
  intro s f w d0 d1 d2 d3 rx hup hf hp hrx
  obtain rfl : rx = f.inboundRegion [w, d0, d1, d2, d3] := hrx
  rw [exec_responseRegionHeader_eq w d0 d1 d2 d3 hup hf hp]
  have may_eq : ∀ free : Bool, free = (decide (1 ≤ s.cmd.address.toNat) && decide (s.cmd.address.toNat ≤ 61)
      && (f.regenerated || w.extractLsb' 26 6 == 0)
      && (f.header.extractLsb' 1 6 == 0 || f.header.extractLsb' 1 6 == s.cmd.address)
      && (s.arb.gap == 0 || f.header.extractLsb' 1 6 == s.cmd.address)) →
      free = mayWrite s.cmd.address (headerReservation f.header) s.arb.gap
        ((f.inboundRegion [w, d0, d1, d2, d3]).headD 0) := by
    intro free h
    rw [h, ← inboundRegion_free f w d0 d1 d2 d3]
    rfl
  by_cases hu : ∃ a, s.cmd.response = .unsent a
  · obtain ⟨a, ha⟩ := hu
    obtain ⟨hi, ho⟩ := State.item_of_unsent ha
    rw [State.responseRegion_item hi _ rfl]
    refine ⟨_, _, rfl, rfl, rfl, fun free hfree => ⟨fun a' ha' => ?_, fun r hn => absurd ha (hn a),
      fun hn => absurd ha (hn a)⟩, rfl⟩
    obtain rfl : a = a' := by rw [ha] at ha'; cases ha'; rfl
    rw [← may_eq free hfree]
    refine ⟨?_, ?_, rfl, rfl⟩ <;> rintro rfl
    · exact ⟨ho, regionLaid_responseWords ..⟩
    · exact ⟨rfl, rfl⟩
  · have hn : ∀ a, s.cmd.response ≠ .unsent a := not_exists.1 hu
    cases hr : s.notices.records.find? NoticeRecord.isQueued with
    | some r =>
      obtain ⟨hi, ho⟩ := State.item_of_queued hn hr
      rw [State.responseRegion_item hi _ rfl]
      refine ⟨_, _, rfl, rfl, rfl, fun free hfree => ⟨fun a ha => absurd ha (hn a), fun r' _ hr' => ?_,
        fun _ hnone => ?_⟩, rfl⟩
      · cases hr'
        rw [← may_eq free hfree]
        refine ⟨?_, ?_, rfl, rfl⟩ <;> rintro rfl
        · exact ⟨ho, regionLaid_noticeWords ..⟩
        · exact ⟨rfl, rfl⟩
      · exact absurd (List.find?_some hr) (by simp [hnone r (List.mem_of_find?_eq_some hr)])
    | none =>
      have hnone : ∀ r ∈ s.notices.records, r.isQueued = false := by simpa using hr
      rw [State.responseRegion_noItem (State.item_none hn hnone)]
      exact ⟨_, _, rfl, rfl, rfl, fun _ _ => ⟨fun a ha => absurd ha (hn a), fun _ _ hr' => by simp at hr',
        fun _ _ => ⟨rfl, rfl, rfl, rfl⟩⟩, rfl⟩

end Sys2Proof.Machine
end

section
/-! PROOFS. A sync word found where it is due (O8), and the check word of a frame's end (O19). -/

namespace Sys2Proof.Machine

/-! ### The relock rule (R27) -/

/-- The line is free by the outbound start: the inbound frame is forwarded. -/
theorem State.relock_free {s : State} {p : BitTime} (hf : s.frame = none) (h : s.tx.line.freeFrom ≤ p + 64) :
    s.relock p = State.beginFrame { s with link := { s.link with relockWait := false } } false (p + 64) := by
  simp [State.relock, hf, Config.forwardDelay, h]

/-- It is not: the frame is dropped, and the node waits behind idle fill. -/
theorem State.relock_busy {s : State} {p : BitTime} (hf : s.frame = none) (h : ¬s.tx.line.freeFrom ≤ p + 64) :
    s.relock p = { s with
      link := { s.link with relockWait := true, pendDropped := s.link.pendDropped + 1 }
      tx := { s.tx with line := .relockFill s.tx.line.freeFrom } } := by
  simp [State.relock, hf, Config.forwardDelay, h]

/-- A frame that begins is begun: its sync word sent, its header next (R1, R25). -/
theorem frameBegun_beginFrame (s : State) (b : Bool) (t : BitTime) :
    FrameBegun (s.beginFrame b t) b t (t - s.tx.line.freeFrom) :=
  ⟨rfl, rfl, _, rfl, rfl, rfl, rfl, rfl⟩

/-! ### A sync word where it is due (R18, R20) -/

theorem exec_syncFoundInLocked_eq {s : State} {p : BitTime} (hup : s.resetHeld = false) (hf : s.frame = none)
    (hd : s.link.due = some p) (hl : s.link.state = .locked) :
    exec .syncFoundInLocked s = .next (if s.link.relockWait then State.relock { s with link := s.link.foundAt p } p
      else State.beginFrame { s with link := s.link.foundAt p } false (p + 64)) := by
  simp [exec, execSyncFoundInLocked, happens_up hup, hd, hf, hl, Config.forwardDelay]

theorem exec_syncFoundInFlywheel_eq {s : State} {p : BitTime} (hup : s.resetHeld = false) (hf : s.frame = none)
    (hd : s.link.due = some p) (hl : s.link.state = .flywheel) :
    exec .syncFoundInFlywheel s
      = .next (State.beginFrame { s with link := s.link.foundAt p } false (p + 64)) := by
  simp [exec, execSyncFoundInFlywheel, happens_up hup, hd, hf, hl, Config.forwardDelay]

/-- What a sync word found at `p` puts in the Link Receiver, whatever becomes of its frame: LOCKED, no miss, the
expected position one frame on, and the rest of what the node shows as it stood (R18, R20). -/
structure FoundSync (s u : State) (p : BitTime) : Prop where
  locked : u.link.state = .locked ∧ u.linkOk = true
  position : u.link.missCount = 0 ∧ u.link.expectedPos = some (p + 2464)
  stands : u.link.E = s.link.E ∧ u.link.lostFlag = s.link.lostFlag ∧ u.link.unlocked = s.link.unlocked
    ∧ u.notices = s.notices
  moved : OnlyLinkMoved s u

/-- The state in which the frame at `p` is forwarded; `wait` is what becomes of the wait under the relock rule. -/
def State.forwarded (s : State) (p : BitTime) (wait : Bool) : State :=
  State.beginFrame { s with link := { s.link.foundAt p with relockWait := wait } } false (p + 64)

theorem State.forwarded_found {s : State} (hup : s.resetHeld = false) (p : BitTime) (wait : Bool) :
    FoundSync s (s.forwarded p wait) p :=
  ⟨⟨rfl, by simp [State.linkOk, State.forwarded, LinkReceiver.foundAt, hup]⟩, ⟨rfl, rfl⟩, ⟨rfl, rfl, rfl, rfl⟩, rfl⟩

/-- Where the relock rule does not hold the frame back, it is forwarded (R18, R20, R27). -/
theorem found_forwards {s : State} {p : BitTime} {i : Instr} (hup : s.resetHeld = false) (hf : s.frame = none)
    (hd : s.link.due = some p)
    (hi : (i = .syncFoundInLocked ∧ s.link.state = .locked) ∨ (i = .syncFoundInFlywheel ∧ s.link.state = .flywheel))
    (hfree : i = .syncFoundInFlywheel ∨ s.link.relockWait = false ∨ s.tx.line.freeFrom ≤ p + 64) :
    ∃ wait, exec i s = .next (s.forwarded p wait) := by
  rcases hi with ⟨rfl, hl⟩ | ⟨rfl, hl⟩
  · rw [exec_syncFoundInLocked_eq hup hf hd hl]
    cases hw : s.link.relockWait with
    | false => exact ⟨s.link.relockWait, rfl⟩
    | true =>
      have hle : s.tx.line.freeFrom ≤ p + 64 := by simpa [hw] using hfree
      exact ⟨false, congrArg Host.Outcome.next (State.relock_free (s := { s with link := s.link.foundAt p }) hf hle)⟩
  · exact ⟨s.link.relockWait, exec_syncFoundInFlywheel_eq hup hf hd hl⟩

/-- Settles O8: the frame is forwarded unless the node waits and the line is busy, the one case that drops it. -/
theorem foundSyncIsForwarded : Obligations.FoundSyncIsForwarded := by
  unfold Obligations.FoundSyncIsForwarded
  intro s p i hup hf hd hi
  by_cases hfree : i = .syncFoundInFlywheel ∨ s.link.relockWait = false ∨ s.tx.line.freeFrom ≤ p + 64
  · obtain ⟨wait, he⟩ := found_forwards hup hf hd hi hfree
    obtain ⟨⟨l1, l2⟩, ⟨p1, p2⟩, ⟨s1, s2, s3, s4⟩, hm⟩ := s.forwarded_found hup p wait
    refine ⟨_, he, l1, l2, p1, p2, s1, s2, s3, s4, fun _ => ⟨frameBegun_beginFrame .., rfl⟩, ?_, hm⟩
    intro hl hw hbusy
    rcases hfree with h | h | h
    · rw [hl] at h; cases h
    · rw [hw] at h; cases h
    · exact absurd h hbusy
  · obtain ⟨hnf, hw, hbusy⟩ : i ≠ .syncFoundInFlywheel ∧ s.link.relockWait = true ∧ ¬s.tx.line.freeFrom ≤ p + 64 := by
      simpa [not_or] using hfree
    obtain ⟨rfl, hl⟩ := hi.resolve_right fun h => hnf h.1
    have he := exec_syncFoundInLocked_eq hup hf hd hl
    rw [if_pos hw, State.relock_busy (s := { s with link := s.link.foundAt p }) hf hbusy] at he
    exact ⟨_, he, rfl, by simp [State.linkOk, LinkReceiver.foundAt, hup], rfl, rfl, rfl, rfl, rfl, rfl,
      fun h => absurd h hfree, fun _ _ _ => ⟨hf, rfl, rfl⟩, rfl⟩

/-! ### The check word (R11, R12) -/

theorem exec_frameEnd_eq {s : State} {f : FrameInFlight} (e : FrameClose) (h : AtEnd s f) :
    exec (.frameEnd e) s = .next (closeFrame f e s).s := by
  obtain ⟨hup, hf, hp⟩ := h
  simp [exec, execFrameEnd, happens_up hup, atFrameEnd_eq hf hp]

/-- With error carry a frame's check fails by the syndrome by which the inbound one failed (R12). -/
theorem errorCarry_syndrome (tx rx check : Word) :
    errorCarry tx rx check ^^^ crcValue tx = check ^^^ crcValue rx := by
  rw [errorCarry, BitVec.xor_comm, ← BitVec.xor_assoc, BitVec.xor_self, BitVec.zero_xor]

/-- It passes exactly when the inbound one passed (R12). -/
theorem errorCarry_passes_iff (tx rx check : Word) :
    errorCarry tx rx check = crcValue tx ↔ check = crcValue rx := by
  rw [← BitVec.xor_eq_zero_iff, errorCarry_syndrome, BitVec.xor_eq_zero_iff]

/-- Unchanged content keeps its received check word (R12). -/
theorem errorCarry_unchanged (rx check : Word) : errorCarry rx rx check = check := by
  rw [errorCarry, BitVec.xor_comm, BitVec.xor_assoc, BitVec.xor_self, BitVec.xor_zero]

/-- The content of a closed frame, words 1 to 75, is what its check remainder was taken over (R1, R11). -/
theorem crcOf_closed {s : State} {f : FrameInFlight} (h : AtEnd s f) (hw : FrameWords s) (out : Word) :
    crcOf ((s.tx.sent ++ [out]).tail.take 75) = crcValue f.txCrc := by
  have hlen : s.tx.sent.length = 76 := (hw.count f h.flight).trans h.last
  have hne : s.tx.sent ≠ [] := by rintro hn; simp [hn] at hlen
  rw [List.tail_append_of_ne_nil hne, List.take_left' (by simp [hlen]), hw.remainder f h.flight]
  rfl

/-- Settles O19: the word that closes the line is the check word over the content sent, or error carry over it. -/
theorem errorCarryKeepsTheSyndrome : Obligations.ErrorCarryKeepsTheSyndrome := by
  unfold Obligations.ErrorCarryKeepsTheSyndrome
  intro s f e hend
  have htx : (closeFrame f e s).s.tx.sent = s.tx.sent ++ [f.checkOut e.check] :=
    congrArg Transmitter.sent (closeFrame_host f e s).2.2.2.2
  refine ⟨_, f.checkOut e.check, exec_frameEnd_eq e hend, htx, ?_⟩
  rw [htx]
  refine ⟨fun hw => ⟨?_, ?_⟩, fun hr hw => ?_, fun hr hw => ?_⟩
  · rw [List.length_append, hw.count f hend.flight, hend.last]; rfl
  · have hne : s.tx.sent ≠ [] := by rintro hn; simpa [hn] using hw.sync f hend.flight
    rw [List.head?_append_of_ne_nil _ hne, hw.sync f hend.flight]
  · rw [crcOf_closed hend hw, FrameInFlight.checkOut, if_pos hr]
  · have hout : f.checkOut e.check = errorCarry f.txCrc f.rxCrc e.check := by simp [FrameInFlight.checkOut, hr]
    rw [crcOf_closed hend hw, hout]
    exact ⟨errorCarry_syndrome .., errorCarry_passes_iff .., fun h => h ▸ errorCarry_unchanged ..⟩

end Sys2Proof.Machine
end

section
/-! SUPPORT. What a frame end's command alone leaves in the frame end, its marks: the other works neither read nor
change them, so a command that leaves nothing else behind makes the frame end the one without it (R57, R96, R102). -/

namespace Sys2Proof.Machine

/-! ### The marks of a command -/

/-- What belongs to the command of a frame end alone: the command in flight, its events, the broadcast sequence, and
what is made of the command. -/
structure CommandMarks where
  held : Option Request
  amounts : CommandAmounts
  broadcastSeq : Option SequenceNumber
  taking : Taking

def Closing.marks (w : Closing) : CommandMarks :=
  { held := w.s.cmd.inFlight, amounts := w.s.cmd.amounts, broadcastSeq := w.s.cmd.broadcastSeq, taking := w.taking }

/-- The frame end with other marks. -/
def Closing.marked (w : Closing) (m : CommandMarks) : Closing :=
  { w with
    taking := m.taking
    s := { w.s with cmd := { w.s.cmd with
      inFlight := m.held, amounts := m.amounts, broadcastSeq := m.broadcastSeq } } }

@[simp] theorem Closing.marked_marks (w : Closing) : w.marked w.marks = w := rfl
@[simp] theorem Closing.marks_marked (w : Closing) (m : CommandMarks) : (w.marked m).marks = m := rfl

theorem State.settleItem_marked (w : Closing) (m : CommandMarks) (d : Bool) :
    (w.marked m).s.settleItem d = (Closing.marked { w with s := w.s.settleItem d } m).s := by
  unfold State.settleItem Closing.marked
  dsimp only
  cases w.s.arb.item with
  | none | notice k => rfl
  | response =>
    cases h : w.s.cmd.response with
    | unsent a => cases d <;> simp [h]
    | empty | pending _ _ | sent _ => simp [h]

/-- The works other than the command neither read the marks nor change them. -/
theorem Closing.item_marked (w : Closing) (m : CommandMarks) {i : EndItem} (h : i ≠ .command) :
    (w.marked m).item i = (w.item i).marked m := by
  cases i with
  | command => exact absurd rfl h
  | resend => rfl
  | delivery =>
    show { w.marked m with s := (w.marked m).s.settleItem w.outcome.delivers } = _
    rw [State.settleItem_marked]
    rfl
  | jumpRaise =>
    show Closing.jumpRaise _ = Closing.marked (Closing.jumpRaise _) m
    unfold Closing.jumpRaise Closing.marked
    dsimp only
    split <;> rfl
  | expiryRaise =>
    show Closing.expiryRaise _ = Closing.marked (Closing.expiryRaise _) m
    unfold Closing.expiryRaise Closing.marked
    dsimp only
    split <;> rfl
  | copyCompletion =>
    show Closing.copyCompletion _ = Closing.marked (Closing.copyCompletion _) m
    unfold Closing.copyCompletion Closing.marked
    dsimp only
    split <;> rfl

theorem Closing.meet_marked (w : Closing) (m : CommandMarks) {items : List EndItem} (h : EndItem.command ∉ items) :
    (w.marked m).meet items = (w.meet items).marked m := by
  unfold Closing.meet
  induction items generalizing w with
  | nil => rfl
  | cons i rest ih =>
    obtain ⟨hi, hrest⟩ := List.ne_and_not_mem_of_not_mem_cons h
    rw [List.foldl_cons, List.foldl_cons, w.item_marked m hi.symm, ih _ hrest]

theorem Closing.meet_marks (w : Closing) {items : List EndItem} (h : EndItem.command ∉ items) :
    (w.meet items).marks = w.marks := by
  have hm := w.meet_marked w.marks h
  rw [Closing.marked_marks] at hm
  rw [hm, Closing.marks_marked]

theorem Closing.meet_append (w : Closing) (l l' : List EndItem) : w.meet (l ++ l') = (w.meet l).meet l' :=
  List.foldl_append

/-! ### The frame end with and without its command -/

theorem Closing.begin_marks (f : FrameInFlight) (e : FrameClose) (s : State) :
    (Closing.begin f e s).marks =
      { held := s.cmd.inFlight, amounts := s.cmd.amounts, broadcastSeq := s.cmd.broadcastSeq, taking := .nothing } := by
  obtain ⟨-, -, -, -, -, hcmd, -, -, -, -, -, -, -, -, ht, -⟩ := Closing.begin_state f e s
  simp only [Closing.marks, hcmd, ht]

theorem Closing.begin_withoutCommand (f : FrameInFlight) (e : FrameClose) (s : State) :
    Closing.begin f e s.withoutCommand
      = (Closing.begin f e s).marked { (Closing.begin f e s).marks with held := none } := by
  unfold Closing.begin Closing.schedule
  split <;> split
  · rfl
  · next h h' => exact absurd h h'
  · next h h' => exact absurd h' h
  · rfl

/-- The works before the command, and those after it. -/
theorem endItems_split (e : FrameClose) : ∃ after,
    endItems e = (endItems e).takeWhile (· != .command) ++ .command :: after
      ∧ EndItem.command ∉ (endItems e).takeWhile (· != .command) ∧ EndItem.command ∉ after := by
  obtain ⟨before, after, he⟩ := List.append_of_mem (mem_endItems e .command)
  have hn := endItems_nodup e
  rw [he] at hn
  obtain ⟨hb, ha⟩ : EndItem.command ∉ before ∧ EndItem.command ∉ after := by
    simp only [List.nodup_append, List.nodup_cons] at hn
    obtain ⟨-, ⟨ha, -⟩, hb⟩ := hn
    exact ⟨fun h => hb _ h _ (List.mem_cons_self ..) rfl, ha⟩
  have htake : (endItems e).takeWhile (· != .command) = before := by
    rw [he, List.takeWhile_append_of_pos (by rintro i hi; rw [bne_iff_ne]; rintro rfl; exact hb hi)]
    simp
  exact ⟨after, by rw [htake, he], htake ▸ hb, ha⟩

/-- The frame end as its command meets it; its state is `metByCommand`. -/
def Closing.beforeCommand (f : FrameInFlight) (e : FrameClose) (s : State) : Closing :=
  (Closing.begin f e s).meet ((endItems e).takeWhile (· != .command))

theorem Closing.beforeCommand_state (f : FrameInFlight) (e : FrameClose) (s : State) :
    (Closing.beforeCommand f e s).s = metByCommand s f e := rfl

theorem Closing.beforeCommand_marks (f : FrameInFlight) (e : FrameClose) (s : State) :
    (Closing.beforeCommand f e s).marks =
      { held := s.cmd.inFlight, amounts := s.cmd.amounts, broadcastSeq := s.cmd.broadcastSeq, taking := .nothing } := by
  obtain ⟨after, -, hb, -⟩ := endItems_split e
  exact ((Closing.begin f e s).meet_marks hb).trans (Closing.begin_marks f e s)

/-- With no command in flight the command's work is none. -/
theorem Closing.command_none {w : Closing} (h : w.s.cmd.inFlight = none) : w.command = w := by
  simp [Closing.command, takenRequest, h]

/-- The marks of a frame end without a command. -/
def State.quietMarks (s : State) : CommandMarks :=
  { held := none, amounts := s.cmd.amounts, broadcastSeq := s.cmd.broadcastSeq, taking := .nothing }

/-- A frame end whose command leaves only marks, and the same frame end without the command: all their works give one
closing, under two sets of marks. -/
theorem settled_of_marked {f : FrameInFlight} {e : FrameClose} {s : State} {m : CommandMarks}
    (h : (Closing.beforeCommand f e s).command = (Closing.beforeCommand f e s).marked m) :
    ∃ w : Closing, (Closing.begin f e s).SameElsewhere w
      ∧ Closing.settled f e s = (w.marked m).deliver
      ∧ Closing.settled f e s.withoutCommand = (w.marked s.quietMarks).deliver := by
  obtain ⟨after, he, hb, ha⟩ := endItems_split e
  have works : ∀ w : Closing, w.meet (endItems e)
      = (w.meet ((endItems e).takeWhile (· != .command))).command.meet after := by
    intro w
    conv_lhs => rw [he]
    exact w.meet_append _ _
  refine ⟨(Closing.beforeCommand f e s).meet after, (Closing.meet_same ..).trans (Closing.meet_same ..), ?_, ?_⟩
  · rw [Closing.settled, works]
    show ((Closing.beforeCommand f e s).command.meet after).deliver = _
    rw [h, Closing.meet_marked _ _ ha]
  · have hq : Closing.begin f e s.withoutCommand = (Closing.begin f e s).marked s.quietMarks := by
      rw [Closing.begin_withoutCommand, Closing.begin_marks]
      rfl
    rw [Closing.settled, works, hq, Closing.meet_marked _ _ hb, Closing.command_none rfl, Closing.meet_marked _ _ ha]
    rfl

/-! ### The frame end after its works -/

/-- No accepted command acts after the works that meet: nothing was taken, or what was taken was refused. -/
def Taking.Idle (t : Taking) : Prop := ∀ r n, t ≠ .accepted r n

theorem Taking.idle_nothing : Taking.nothing.Idle := by rintro r n ⟨⟩

theorem Taking.idle_turned (r : Request) (t : Turned) : (Taking.turned r t).Idle := by rintro r n ⟨⟩

theorem Closing.beforeCapture_idle {w : Closing} (h : w.taking.Idle) : w.beforeCapture = w := by
  unfold Closing.beforeCapture Taking.beforeCapture
  split
  · rfl
  · split
    · next r ht => exact absurd ht (h r _)
    · rfl

/-- Without an accepted command the frame end is its counting, and then the answer. -/
theorem closeFrame_idle {f : FrameInFlight} {e : FrameClose} {s : State} {w : Closing}
    (hw : Closing.settled f e s = w) (ht : w.taking.Idle) :
    (closeFrame f e s).s = w.taking.run w.capture w.count.s := by
  unfold closeFrame
  rw [hw]
  dsimp only
  rw [Closing.beforeCapture_idle ht]

/-- Then the response record alone moves after the counting (R98, R102). -/
theorem Taking.run_idle {t : Taking} (h : t.Idle) (k : Capture) (s : State) :
    ∃ x, t.run k s = { s with cmd := { s.cmd with response := x } } := by
  cases t with
  | nothing => exact ⟨s.cmd.response, rfl⟩
  | turned r t => exact s.answer_eq r _
  | accepted r n => exact absurd rfl (h r n)

/-- No trigger of its own comes to a frame end: the gate is STOPPED, no schedule fired, and no sync loss is marked. -/
structure Closing.Quiet (w : Closing) : Prop where
  gate : w.s.counters.gate = false
  fired : w.fired = false
  mark : w.s.snaps.syncLossMark = false

theorem CounterBank.evaluate_stopped {b : CounterBank} (h : b.gate = false) :
    b.evaluate = { b with frame := FrameAmounts.zero } := by
  have hb : (Vector.ofFn fun i : CounterIndex =>
      if b.evaluates i then b.bank[i].evaluate (b.frame.amount b.bank[i].control) else b.bank[i]) = b.bank := by
    ext i hi
    simp [CounterBank.evaluates, h]
  rw [CounterBank.evaluate, hb]

/-- A quiet frame end without an accepted command brings no trigger (R154). -/
theorem Closing.causes_quiet {w : Closing} (h : w.Quiet) (ht : w.taking.Idle) :
    (w.causes w.s.counters).any = false := by
  have hc : w.taking.captures = false := by
    unfold Taking.captures
    split
    · next r htk => exact absurd htk (ht r _)
    · rfl
  have hwrap : w.s.counters.wrapTrigger = false := by
    simp [CounterBank.wrapTrigger, CounterBank.wrapsAt, CounterBank.evaluates, h.gate]
  simp [Causes.any, Closing.causes, hc, hwrap, h.fired, h.mark]

/-- So it evaluates no counter and captures nothing (R139, R140, R156). -/
theorem Closing.count_quiet {w : Closing} (h : w.Quiet) (ht : w.taking.Idle) :
    w.count.s = { w.s with counters := { w.s.counters with frame := FrameAmounts.zero } } := by
  have hm : { w.s.snaps with syncLossMark := false } = w.s.snaps := by rw [← h.mark]
  have hc := w.causes_quiet h ht
  unfold Closing.count
  dsimp only
  rw [CounterBank.evaluate_stopped h.gate]
  rcases State.captureStep_cases { w.s with counters := { w.s.counters with frame := FrameAmounts.zero } }
    w.frame.number (w.causes w.s.counters) with ⟨-, hs⟩ | ⟨ha, -⟩ | ⟨ha, -⟩
  · rw [hs]
    dsimp only
    rw [hm]
  · rw [hc] at ha; cases ha
  · rw [hc] at ha; cases ha

/-- A calm frame end is quiet (R154, R155). -/
theorem quiet_of_calm {f : FrameInFlight} {e : FrameClose} {s : State} {w : Closing} (hc : Calm s)
    (hw : (Closing.begin f e s).SameElsewhere w) : w.Quiet := by
  obtain ⟨-, -, -, -, -, -, -, -, hgate, -⟩ := Closing.begin_state f e s
  obtain ⟨hfired, hsnaps⟩ := Closing.begin_snaps f e s
  obtain ⟨-, -, -, -, hf, -⟩ := hw.closing
  have hn : s.snaps.firesAt f.number = false := by simp [SnapshotUnit.firesAt, hc.scheduled]
  rw [hn] at hfired hsnaps
  exact ⟨by rw [hw.counters, hgate, hc.gate], by rw [hf, hfired], by rw [hw.snaps, hsnaps]; exact hc.mark⟩

/-! ### Two frame ends that differ by the marks of the command -/

theorem SameButForTheAnswer.of_responses {s u q : State} (h : SameButForTheAnswer s u q) (x y : ResponseRecord) :
    SameButForTheAnswer s { u with cmd := { u.cmd with response := x } }
      { q with cmd := { q.cmd with response := y } } := by
  obtain ⟨h1, h2, h3, h4, h5, h6, h7, h8, h9⟩ := h
  exact ⟨h1, h2, h3, h4, h5, h6, h7, h8, h9⟩

/-- What a closing leaves in each block once it is delivered and counted: of its marks the broadcast sequence alone. -/
theorem Closing.counted_state (w : Closing) (m : CommandMarks) {u : State}
    (h : u = (w.marked m).deliver.count.s) :
    u.link = w.s.link ∧ u.frame = w.s.frame ∧ u.tx = w.s.tx ∧ u.slots = w.s.slots ∧ u.map = w.s.map
      ∧ u.inputs = w.s.inputs ∧ u.outputs = w.s.outputs
      ∧ u.cmd = { w.s.cmd with
          inFlight := none, amounts := CommandAmounts.zero, broadcastSeq := m.broadcastSeq }
      ∧ u.arb = { w.s.arb with item := .none, written := false, denied := false, sentResponse := false }
      ∧ u.resetHeld = w.s.resetHeld ∧ u.pending = w.s.pending := by
  obtain ⟨a1, a2, a3, a4, a5, a6, a7, a8, a9, a10, a11, -⟩ := Closing.count_state (w.marked m).deliver
  rw [← h] at a1 a2 a3 a4 a5 a6 a7 a8 a9 a10 a11
  exact ⟨a1, a2, a3, a4, a5, a6, a7, a8, a9, a10, a11⟩

theorem Closing.Quiet.delivered {w : Closing} (h : w.Quiet) (m : CommandMarks) : (w.marked m).deliver.Quiet := by
  obtain ⟨hg, hf, hl⟩ := h
  constructor <;> simp only [Closing.deliver, Closing.marked] <;> assumption

/-- And in the counters, the snapshots and the notices, where it is quiet. -/
theorem Closing.counted_quiet {w : Closing} (hw : w.Quiet) {m : CommandMarks} (hm : m.taking.Idle) {u : State}
    (h : u = (w.marked m).deliver.count.s) :
    u.counters = { w.s.counters with frame := FrameAmounts.zero } ∧ u.snaps = w.s.snaps
      ∧ u.notices = { w.s.notices with pendingDrops := 0 } := by
  rw [h, Closing.count_quiet (hw.delivered m) hm]
  simp only [Closing.deliver, Closing.marked, and_self]

/-- One closing counted under two sets of marks differs in the broadcast sequence alone, where the frame end is calm. -/
theorem counted_same {f : FrameInFlight} {e : FrameClose} {s u q : State} {w : Closing}
    (hw : (Closing.begin f e s).SameElsewhere w) {m m' : CommandMarks} (hm : m.taking.Idle) (hm' : m'.taking.Idle)
    (hu : u = (w.marked m).deliver.count.s) (hq : q = (w.marked m').deliver.count.s) :
    SameButForTheAnswer s u q := by
  obtain ⟨a1, a2, a3, a4, a5, a6, a7, a8, a9, a10, a11⟩ := w.counted_state m hu
  obtain ⟨b1, b2, b3, b4, b5, b6, b7, b8, b9, b10, b11⟩ := w.counted_state m' hq
  refine ⟨a1.trans b1.symm, ⟨a2.trans b2.symm, a3.trans b3.symm⟩, a4.trans b4.symm, a5.trans b5.symm,
    ⟨a6.trans b6.symm, a7.trans b7.symm⟩, ?_, a9.trans b9.symm, ⟨a10.trans b10.symm, a11.trans b11.symm⟩, fun hc => ?_⟩
  · rw [a8, b8]; exact ⟨rfl, rfl, rfl, rfl⟩
  · obtain ⟨c1, c2, c3⟩ := Closing.counted_quiet (quiet_of_calm hc hw) hm hu
    obtain ⟨d1, d2, d3⟩ := Closing.counted_quiet (quiet_of_calm hc hw) hm' hq
    exact ⟨c1.trans d1.symm, c2.trans d2.symm, c3.trans d3.symm⟩

/-- A frame end whose command leaves only marks, against the same frame end without it: the same but for the answer,
which `run` puts into the record that both have. -/
theorem closeFrame_of_marked {f : FrameInFlight} {e : FrameClose} {s : State} {m : CommandMarks}
    (h : (Closing.beforeCommand f e s).command = (Closing.beforeCommand f e s).marked m) (hm : m.taking.Idle) :
    SameButForTheAnswer s (closeFrame f e s).s (closeFrame f e s.withoutCommand).s
      ∧ ∃ (k : Capture) (v : State), (closeFrame f e s).s = m.taking.run k v ∧ v.cmd.broadcastSeq = m.broadcastSeq
        ∧ v.cmd.response = (closeFrame f e s.withoutCommand).s.cmd.response := by
  obtain ⟨w, hw, hu, hq⟩ := settled_of_marked h
  have hu' := closeFrame_idle hu hm
  have hq' : (closeFrame f e s.withoutCommand).s = (w.marked s.quietMarks).deliver.count.s :=
    closeFrame_idle hq Taking.idle_nothing
  obtain ⟨v, hv⟩ : ∃ v, v = (w.marked m).deliver.count.s := ⟨_, rfl⟩
  rw [← hv] at hu'
  obtain ⟨-, -, -, -, -, -, -, hcmd, -⟩ := w.counted_state m hv
  obtain ⟨-, -, -, -, -, -, -, hcmd', -⟩ := w.counted_state s.quietMarks hq'
  refine ⟨?_, _, v, hu', by rw [hcmd], by rw [hcmd, hcmd']⟩
  obtain ⟨x, hx⟩ := Taking.run_idle hm (w.marked m).deliver.capture v
  exact (hu'.trans hx) ▸ (counted_same hw hm Taking.idle_nothing hv hq').of_responses x _

end Sys2Proof.Machine
end

section
/-! PROOFS. Refused commands (O35): what a refusal leaves in a frame end is marks alone. -/

namespace Sys2Proof.Machine

/-! ### The checks (R57, R102) -/

/-- No command takes 5 parameters or more: each draws BAD_PARAMETER from its first check, with no data (R4, R57). -/
theorem checkCommand_of_count (n : CommandName) {r : Request} (h : 5 ≤ r.count) (s : State) :
    checkCommand n r s = some (.badParameter, []) := by
  have hne : ∀ k, k < 5 → (r.count == k) = false := fun k hk => by simp; omega
  have hw : writeCountOk r.count (entryCount r.p0) = false := by
    unfold writeCountOk
    split <;> simp <;> omega
  cases n <;>
    simp [checkCommand, checkIdentify, checkAssignAddress, checkNodeReset, checkReadStatus, checkSetParameter,
      checkGetParameter, checkWriteEntries, checkReadEntries, checkCopyActive, checkCommit, checkCancelCommit,
      checkAcknowledge, checkSetCounter, checkGetCounterControl, checkReadCounters, checkClearCounters, checkGate,
      checkTakeSnapshot, checkCancelSnapshot, checkReadSnapshot, checkReleaseSnapshot, require, hne, hw]

/-- No check reads the broadcast sequence. -/
theorem checkCommand_broadcastSeq (n : CommandName) (r : Request) (s : State) (q : Option SequenceNumber) :
    checkCommand n r { s with cmd := { s.cmd with broadcastSeq := q } } = checkCommand n r s := by
  cases n <;> rfl

theorem verdict_of_refuses {t : State} {r : Request} {st : Status} {data : List Word} (h : Refuses t r st data) :
    verdict r t = .turned r (st, data) := by
  rcases h with ⟨hn, rfl, rfl⟩ | ⟨n, hn, hc⟩
  · simp [verdict, hn]
  · simp [verdict, hn, hc]

theorem refuses_unknown {t : State} {r : Request} (h : r.name = none) : Refuses t r .badCommand [] :=
  .inl ⟨h, rfl, rfl⟩

theorem refuses_count {t : State} {r : Request} (h : r.name ≠ none) (hc : 5 ≤ r.count) :
    Refuses t r .badParameter [] := by
  obtain ⟨n, hn⟩ := Option.ne_none_iff_exists'.1 h
  exact .inr ⟨n, hn, checkCommand_of_count n hc t⟩

theorem refuses_broadcastSeq {t : State} {r : Request} {st : Status} {data : List Word} (h : Refuses t r st data)
    (q : Option SequenceNumber) : Refuses { t with cmd := { t.cmd with broadcastSeq := q } } r st data := by
  rcases h with h | ⟨n, hn, hc⟩
  · exact .inl h
  · exact .inr ⟨n, hn, (checkCommand_broadcastSeq n r t q).trans hc⟩

/-! ### The command that a frame end meets -/

/-- The response record is settled: EMPTY or SENT, so that no delivery and no copy can reach it (R65, R120). -/
def ResponseRecord.Settled (x : ResponseRecord) : Prop := x = .empty ∨ ∃ a, x = .sent a

theorem Closing.item_response {w : Closing} {i : EndItem} (hi : i ≠ .command) (h : w.s.cmd.response.Settled) :
    (w.item i).s.cmd.response = w.s.cmd.response := by
  cases i with
  | command => exact absurd rfl hi
  | resend => rfl
  | jumpRaise =>
    show w.jumpRaise.s.cmd.response = _
    unfold Closing.jumpRaise
    split <;> rfl
  | expiryRaise =>
    show w.expiryRaise.s.cmd.response = _
    unfold Closing.expiryRaise
    split <;> rfl
  | delivery =>
    show (w.s.settleItem w.outcome.delivers).cmd.response = _
    unfold State.settleItem
    rcases h with h | ⟨a, h⟩ <;> rw [h] <;> split <;> simp [h]
  | copyCompletion =>
    show w.copyCompletion.s.cmd.response = _
    unfold Closing.copyCompletion
    split
    · rcases h with h | ⟨a, h⟩ <;> simp [h, ResponseRecord.copyDone]
    · rfl

theorem Closing.meet_response {w : Closing} {items : List EndItem} (hi : EndItem.command ∉ items)
    (h : w.s.cmd.response.Settled) : (w.meet items).s.cmd.response = w.s.cmd.response := by
  unfold Closing.meet
  induction items generalizing w with
  | nil => rfl
  | cons i rest ih =>
    obtain ⟨hne, hrest⟩ := List.ne_and_not_mem_of_not_mem_cons hi
    have hw := w.item_response hne.symm h
    rw [List.foldl_cons, ih hrest (hw ▸ h), hw]

/-- A settled response record stands until the command is met. -/
theorem Closing.beforeCommand_response {f : FrameInFlight} {e : FrameClose} {s : State} (h : s.cmd.response.Settled) :
    (Closing.beforeCommand f e s).s.cmd.response = s.cmd.response := by
  obtain ⟨after, -, hb, -⟩ := endItems_split e
  obtain ⟨-, -, -, -, -, hcmd, -⟩ := Closing.begin_state f e s
  have hr : (Closing.begin f e s).s.cmd.response = s.cmd.response := by rw [hcmd]
  exact (Closing.meet_response hb (hr ▸ h)).trans hr

/-- A command for this node is taken at a GOOD end (R96). -/
theorem takenRequest_eq {f : FrameInFlight} {e : FrameClose} {s : State} {r : Request} (h : AtGoodEnd s f e)
    (hr : s.cmd.inFlight = some r) (hc : r.cls ≠ .none) :
    takenRequest (Closing.beforeCommand f e s).s (Closing.beforeCommand f e s).outcome = some r := by
  have hheld : (Closing.beforeCommand f e s).s.cmd.inFlight = some r :=
    (congrArg CommandMarks.held (Closing.beforeCommand_marks f e s)).trans hr
  have hgood : (Closing.beforeCommand f e s).outcome = .good := by
    obtain ⟨-, -, -, -, -, -, -, -, -, -, -, -, -, ho, -⟩ := Closing.begin_state f e s
    refine ((Closing.meet_same _ _).closing.2.1).trans (ho.trans ?_)
    simp [FrameInFlight.outcome, h.forwarded, h.passes]
  simp [takenRequest, hheld, hgood, hc]

/-- The works of the command, by its target class (R97, R98). -/
theorem Closing.command_taken {w : Closing} {r : Request} (h : takenRequest w.s w.outcome = some r) :
    (r.cls = .unicast → w.command = w.takeUnicast r) ∧ (r.cls = .broadcast → w.command = w.takeBroadcast r) := by
  unfold Closing.command
  rw [h]
  exact ⟨fun hc => by simp [hc], fun hc => by simp [hc]⟩

/-- A refused command is counted as taken and refused, and its refusal is held to be answered (R102, R104). -/
def CommandMarks.refused (m : CommandMarks) (r : Request) (t : Turned) : CommandMarks :=
  { m with
    amounts := { taken := true, refused := true, overrun := false, resent := false }
    taking := .turned r t }

/-- An ignored broadcast is counted as refused, and not executed (R98, R104). -/
def CommandMarks.ignored (m : CommandMarks) : CommandMarks :=
  { m with amounts := { taken := false, refused := true, overrun := false, resent := false } }

theorem Closing.execute_refused {w : Closing} {r : Request} {st : Status} {data : List Word}
    (h : Refuses w.s r st data) : w.execute r = w.marked (w.marks.refused r (st, data)) := by
  unfold Closing.execute
  rw [verdict_of_refuses h]
  rfl

/-- A unicast that is executed and refused leaves marks alone (R97, R102). -/
theorem Closing.takeUnicast_refused {w : Closing} {r : Request} {st : Status} {data : List Word}
    (hnew : w.s.cmd.response = .empty ∨ ∃ a, w.s.cmd.response = .sent a ∧ a.seq ≠ r.seq)
    (h : Refuses w.s r st data) : w.takeUnicast r = w.marked (w.marks.refused r (st, data)) := by
  have hrec : w.s.cmd.response.receive r.seq = .execute := by
    rcases hnew with hr | ⟨a, hr, hne⟩
    · rw [hr]; rfl
    · rw [hr]; simp [ResponseRecord.receive, hne.symm]
  unfold Closing.takeUnicast
  rw [hrec]
  exact Closing.execute_refused h

theorem acceptsBroadcast_iff {n : CommandName} : acceptsBroadcast n = true ↔ BroadcastName (some n) := by
  cases n <;> simp [acceptsBroadcast, BroadcastName]

/-- A broadcast that is executed and refused enters its sequence, and leaves marks alone (R98, R102). -/
theorem Closing.takeBroadcast_refused {w : Closing} {r : Request} {st : Status} {data : List Word}
    (hnew : w.s.cmd.broadcastSeq ≠ some r.seq) (hn : BroadcastName r.name) (h : Refuses w.s r st data) :
    w.takeBroadcast r = w.marked ({ w.marks with broadcastSeq := some r.seq }.refused r (st, data)) := by
  unfold Closing.takeBroadcast
  rw [if_neg (by simpa using hnew)]
  cases hname : r.name with
  | none => rw [hname] at hn; simp [BroadcastName] at hn
  | some n =>
    dsimp only
    rw [if_pos (acceptsBroadcast_iff.2 (hname ▸ hn))]
    exact Closing.execute_refused (refuses_broadcastSeq h _)

/-- A broadcast of another code is ignored, and leaves marks alone (R98). -/
theorem Closing.takeBroadcast_ignored {w : Closing} {r : Request} (hnew : w.s.cmd.broadcastSeq ≠ some r.seq)
    (hn : ¬BroadcastName r.name) : w.takeBroadcast r = w.marked w.marks.ignored := by
  unfold Closing.takeBroadcast
  rw [if_neg (by simpa using hnew)]
  cases hname : r.name with
  | none => rfl
  | some n =>
    dsimp only
    rw [if_neg (fun hb => hn (hname ▸ acceptsBroadcast_iff.1 hb))]
    rfl

/-! ### The frame end of a refused command -/

section
variable {f : FrameInFlight} {e : FrameClose} {s : State} {r : Request} {st : Status} {data : List Word}

/-- A refused unicast is answered with its refusal and changes nothing else (R57, R102). -/
theorem closeFrame_refused_unicast (h : AtGoodEnd s f e) (hr : s.cmd.inFlight = some r) (hc : r.cls = .unicast)
    (hnew : s.cmd.response = .empty ∨ ∃ a, s.cmd.response = .sent a ∧ a.seq ≠ r.seq)
    (hv : Refuses (metByCommand s f e) r st data) :
    Answered (closeFrame f e s).s r st data
      ∧ SameButForTheAnswer s (closeFrame f e s).s (closeFrame f e s.withoutCommand).s := by
  have hset : s.cmd.response.Settled := hnew.imp_right fun ⟨a, ha, _⟩ => ⟨a, ha⟩
  rw [← Closing.beforeCommand_state] at hv
  have hcmd := ((Closing.command_taken (takenRequest_eq h hr (by simp [hc]))).1 hc).trans
    (Closing.takeUnicast_refused (by rwa [Closing.beforeCommand_response hset]) hv)
  obtain ⟨hsame, k, v, hu, -⟩ := closeFrame_of_marked hcmd (Taking.idle_turned r (st, data))
  refine ⟨?_, hsame⟩
  rw [hu]
  simp [CommandMarks.refused, Taking.run, State.answer, Answered, hc]

/-- A broadcast that leaves only marks and is not answered enters the sequence of its marks and nothing else (R98). -/
theorem closeFrame_marked_broadcast {m : CommandMarks}
    (hcmd : (Closing.beforeCommand f e s).command = (Closing.beforeCommand f e s).marked m)
    (hm : m.taking = .nothing ∨ ∃ t, m.taking = .turned r t) (hc : r.cls = .broadcast) :
    (closeFrame f e s).s.cmd.response = (closeFrame f e s.withoutCommand).s.cmd.response
      ∧ (closeFrame f e s).s.cmd.broadcastSeq = m.broadcastSeq
      ∧ SameButForTheAnswer s (closeFrame f e s).s (closeFrame f e s.withoutCommand).s := by
  have hidle : m.taking.Idle := by
    rcases hm with h | ⟨t, h⟩ <;> rw [h]
    · exact Taking.idle_nothing
    · exact Taking.idle_turned r t
  obtain ⟨hsame, k, v, hu, hseq, hresp⟩ := closeFrame_of_marked hcmd hidle
  have hrun : m.taking.run k v = v := by
    rcases hm with h | ⟨t, h⟩ <;> rw [h]
    · rfl
    · simp [Taking.run, State.answer, hc]
  exact ⟨by rw [hu, hrun, hresp], by rw [hu, hrun, hseq], hsame⟩

end

theorem AtEnd.withoutCommand {s : State} {f : FrameInFlight} (h : AtEnd s f) : AtEnd s.withoutCommand f :=
  ⟨h.up, h.flight, h.last⟩

/-- Settles O35: a refusal leaves marks in its frame end, and the answer of a unicast. -/
theorem refusedCommandsChangeNothing : Obligations.RefusedCommandsChangeNothing := by
  unfold Obligations.RefusedCommandsChangeNothing
  intro s f e r h hr
  refine ⟨_, _, exec_frameEnd_eq e h.toAtEnd, exec_frameEnd_eq e h.toAtEnd.withoutCommand, fun hc hnew => ?_,
    fun hc hnew => ?_⟩
  · have refused := fun st data => closeFrame_refused_unicast (st := st) (data := data) h hr hc hnew
    exact ⟨refused, fun hn => refused _ _ (refuses_unknown hn), fun hn hcount => refused _ _ (refuses_count hn hcount)⟩
  · have hmarks := Closing.beforeCommand_marks f e s
    have hseq : (Closing.beforeCommand f e s).s.cmd.broadcastSeq = s.cmd.broadcastSeq :=
      congrArg CommandMarks.broadcastSeq hmarks
    have hcmd := (Closing.command_taken (takenRequest_eq h hr (by simp [hc]))).2 hc
    rw [← hseq] at hnew
    refine ⟨fun hn st data hv => ?_, fun hn => ?_⟩
    · exact closeFrame_marked_broadcast (hcmd.trans (Closing.takeBroadcast_refused hnew hn hv)) (.inr ⟨_, rfl⟩) hc
    · obtain ⟨hresp, hs, hsame⟩ := closeFrame_marked_broadcast (hcmd.trans (Closing.takeBroadcast_ignored hnew hn))
        (.inl (congrArg CommandMarks.taking hmarks)) hc
      exact ⟨hresp, hs.trans hseq, hsame⟩

end Sys2Proof.Machine
end

section
/-! SUPPORT. What the works of a frame end make of its command, said once: it leaves marks, offers a SENT record again,
or is accepted (R96 to R98, R102). -/

namespace Sys2Proof.Machine

/-! ### The frame end before the works that meet, block by block -/

section
variable (f : FrameInFlight) (e : FrameClose) (s : State)

@[simp] theorem Closing.begin_map : (Closing.begin f e s).s.map = s.map := by
  unfold Closing.begin Closing.schedule; split <;> rfl
@[simp] theorem Closing.begin_cmd : (Closing.begin f e s).s.cmd = s.cmd := by
  unfold Closing.begin Closing.schedule; split <;> rfl
@[simp] theorem Closing.begin_notices : (Closing.begin f e s).s.notices = s.notices := by
  unfold Closing.begin Closing.schedule; split <;> rfl
@[simp] theorem Closing.begin_item : (Closing.begin f e s).s.arb.item = s.arb.item := by
  unfold Closing.begin Closing.schedule; split <;> rfl
@[simp] theorem Closing.begin_frame : (Closing.begin f e s).frame = f := by
  unfold Closing.begin Closing.schedule; split <;> rfl
@[simp] theorem Closing.begin_outcome : (Closing.begin f e s).outcome = f.outcome e.check := by
  unfold Closing.begin Closing.schedule; split <;> rfl
@[simp] theorem Closing.begin_taking : (Closing.begin f e s).taking = .nothing := by
  unfold Closing.begin Closing.schedule; split <;> rfl

end

/-! ### What the command's work makes of a frame end -/

theorem takenRequest_eq_some {s : State} {o : FrameOutcome} {r : Request} :
    takenRequest s o = some r ↔ s.cmd.inFlight = some r ∧ o = .good ∧ r.cls ≠ .none := by
  unfold takenRequest
  cases s.cmd.inFlight with
  | none => simp
  | some q =>
    by_cases hq : o = .good ∧ q.cls ≠ .none
    · simp only [hq.1, bne_iff_ne.2 hq.2, beq_self_eq_true, Bool.and_self, if_true, Option.some.injEq, true_and]
      exact ⟨fun h => ⟨h, h ▸ hq.2⟩, And.left⟩
    · have hb : (o == .good && q.cls != .none) = false := by simpa [← not_and_or] using hq
      simp only [hb, Bool.false_eq_true, if_false, reduceCtorEq, Option.some.injEq, false_iff]
      rintro ⟨rfl, h⟩
      exact hq h

/-- `r` is a request for this node, held at a GOOD end, with the name `n`, and it passes the checks of `n` on `t`: what
an accepted command satisfies (R96, R102). -/
structure Accepts (w : Closing) (r : Request) (n : CommandName) (t : State) : Prop where
  held : w.s.cmd.inFlight = some r
  good : w.outcome = .good
  cls : r.cls ≠ .none
  name : r.name = some n
  passes : checkCommand n r t = none

/-- What the command's work makes of a frame end. -/
inductive Closing.Commanded (w : Closing) : Closing → Prop
  /-- it leaves marks alone: it is dropped, ignored, discarded or refused -/
  | marks (m : CommandMarks) (taking : m.taking = w.taking ∨ ∃ r t, m.taking = .turned r t) :
      w.Commanded (w.marked m)
  /-- a SENT record is offered again (R97, R100) -/
  | resent : w.Commanded { w with s := w.s.reopenResponse.countCommand false false false true }
  /-- it is accepted, and meets the other works; a broadcast has entered its sequence -/
  | accepted (r : Request) (n : CommandName) (q : Option SequenceNumber)
      (accepts : Accepts w r n { w.s with cmd := { w.s.cmd with broadcastSeq := q } }) :
      w.Commanded { w with
        taking := .accepted r n
        s := (meetCommand n r w.snapshotFirst
          { w.s with cmd := { w.s.cmd with broadcastSeq := q } }).countCommand true false false false }

/-- An executed command is accepted, and meets the other works, or refused (R102). -/
theorem Closing.execute_cases (w : Closing) (r : Request) :
    (∃ n, r.name = some n ∧ checkCommand n r w.s = none ∧ w.execute r = { w with
        taking := .accepted r n
        s := (meetCommand n r w.snapshotFirst w.s).countCommand true false false false })
      ∨ ∃ t : Turned, Refuses w.s r t.1 t.2 ∧ w.execute r = w.marked (w.marks.refused r t) := by
  have refused : ∀ t : Turned, Refuses w.s r t.1 t.2 → ∃ t : Turned, Refuses w.s r t.1 t.2 ∧
      w.execute r = w.marked (w.marks.refused r t) := fun t h => ⟨t, h, Closing.execute_refused h⟩
  cases hn : r.name with
  | none => exact .inr (refused (.badCommand, []) (refuses_unknown hn))
  | some n =>
    cases hc : checkCommand n r w.s with
    | none =>
      have hv : verdict r w.s = .accepted r n := by simp [verdict, hn, hc]
      exact .inl ⟨n, rfl, hc, by unfold Closing.execute; rw [hv]⟩
    | some t => exact .inr (refused t (.inr ⟨n, hn, hc⟩))

section
variable {w : Closing} {r : Request}

theorem Closing.execute_commanded (h : takenRequest w.s w.outcome = some r) : w.Commanded (w.execute r) := by
  obtain ⟨hr, ho, hc⟩ := takenRequest_eq_some.1 h
  rcases w.execute_cases r with ⟨n, hn, hp, he⟩ | ⟨t, -, he⟩ <;> rw [he]
  · exact .accepted r n w.s.cmd.broadcastSeq ⟨hr, ho, hc, hn, hp⟩
  · exact .marks _ (.inr ⟨r, t, rfl⟩)

theorem Closing.takeUnicast_commanded (h : takenRequest w.s w.outcome = some r) : w.Commanded (w.takeUnicast r) := by
  unfold Closing.takeUnicast
  split
  · exact .marks w.marks (.inl rfl)
  · exact .marks { w.marks with amounts := _ } (.inl rfl)
  · exact .resent
  · exact w.execute_commanded h

theorem Closing.takeClaimed_commanded (h : takenRequest w.s w.outcome = some r) : w.Commanded (w.takeClaimed r) := by
  unfold Closing.takeClaimed
  split
  · exact .marks { w.marks with amounts := _ } (.inl rfl)
  · exact w.takeUnicast_commanded h

theorem Closing.takeBroadcast_commanded (h : takenRequest w.s w.outcome = some r) :
    w.Commanded (w.takeBroadcast r) := by
  obtain ⟨hr, ho, hc⟩ := takenRequest_eq_some.1 h
  unfold Closing.takeBroadcast
  split
  · exact .marks w.marks (.inl rfl)
  · split
    · split
      · rcases Closing.execute_cases { w with s := { w.s with cmd := { w.s.cmd with broadcastSeq := some r.seq } } } r
          with ⟨n, hn, hp, he⟩ | ⟨t, -, he⟩ <;> rw [he]
        · exact .accepted r n (some r.seq) ⟨hr, ho, hc, hn, hp⟩
        · exact .marks { w.marks with broadcastSeq := some r.seq, amounts := _, taking := _ } (.inr ⟨r, t, rfl⟩)
      · exact .marks w.marks.ignored (.inl rfl)
    · exact .marks w.marks.ignored (.inl rfl)

end

/-- What the command's work can make of a frame end (R96). -/
theorem Closing.command_commanded (w : Closing) : w.Commanded w.command := by
  unfold Closing.command
  split
  · next r h =>
    split
    · exact w.takeUnicast_commanded h
    · exact w.takeClaimed_commanded h
    · exact w.takeBroadcast_commanded h
    · exact .marks w.marks (.inl rfl)
  · exact .marks w.marks (.inl rfl)

theorem Closing.beforeCommand_outcome (f : FrameInFlight) (e : FrameClose) (s : State) :
    (Closing.beforeCommand f e s).outcome = f.outcome e.check := by
  obtain ⟨-, ho, -⟩ := ((Closing.begin f e s).meet_same ((endItems e).takeWhile (· != .command))).closing
  exact ho.trans (Closing.begin_outcome f e s)

/-- The frame end with all the works done that may meet; delivered, it is settled. -/
def Closing.worked (f : FrameInFlight) (e : FrameClose) (s : State) : Closing :=
  (Closing.begin f e s).meet (endItems e)

theorem settled_eq_deliver (f : FrameInFlight) (e : FrameClose) (s : State) :
    Closing.settled f e s = (Closing.worked f e s).deliver := rfl

theorem Closing.worked_same (f : FrameInFlight) (e : FrameClose) (s : State) :
    (Closing.begin f e s).SameElsewhere (Closing.worked f e s) := Closing.meet_same ..

/-- The works of a frame end: those before the command, the command, and those after it. -/
theorem worked_split (f : FrameInFlight) (e : FrameClose) (s : State) : ∃ after, EndItem.command ∉ after
    ∧ Closing.worked f e s = (Closing.beforeCommand f e s).command.meet after := by
  obtain ⟨after, he, -, ha⟩ := endItems_split e
  refine ⟨after, ha, ?_⟩
  unfold Closing.worked
  conv_lhs => rw [he]
  exact (Closing.begin f e s).meet_append _ _

/-- The works after the command leave its marks alone. -/
theorem worked_marks (f : FrameInFlight) (e : FrameClose) (s : State) :
    (Closing.worked f e s).marks = (Closing.beforeCommand f e s).command.marks := by
  obtain ⟨after, ha, hm⟩ := worked_split f e s
  rw [hm]
  exact Closing.meet_marks _ ha

theorem settled_taking (f : FrameInFlight) (e : FrameClose) (s : State) :
    (Closing.settled f e s).taking = (Closing.beforeCommand f e s).command.taking :=
  congrArg CommandMarks.taking (worked_marks f e s)

/-- A command that a frame end accepts is the one in flight, for this node, at a GOOD end; it passed its checks. -/
theorem accepts_of_settled {f : FrameInFlight} {e : FrameClose} {s : State} {r : Request} {n : CommandName}
    (h : (Closing.settled f e s).taking = .accepted r n) :
    s.cmd.inFlight = some r ∧ f.outcome e.check = .good ∧ r.cls ≠ .none ∧ r.name = some n
      ∧ ∃ t, checkCommand n r t = none := by
  have hmarks := Closing.beforeCommand_marks f e s
  have hout : (Closing.beforeCommand f e s).outcome = f.outcome e.check := Closing.beforeCommand_outcome f e s
  have hidle : (Closing.beforeCommand f e s).taking = .nothing := congrArg CommandMarks.taking hmarks
  rw [settled_taking] at h
  generalize hv : (Closing.beforeCommand f e s).command = v at h
  have hc := (Closing.beforeCommand f e s).command_commanded
  rw [hv] at hc
  cases hc with
  | marks m ht =>
    rcases ht with ht | ⟨r', t, ht⟩
    · cases (h.symm.trans (ht.trans hidle))
    · cases (h.symm.trans ht)
  | resent => cases (h.symm.trans hidle)
  | accepted r' n' q ha =>
    cases h
    exact ⟨(congrArg CommandMarks.held hmarks).symm.trans ha.held, hout.symm.trans ha.good, ha.cls, ha.name,
      _, ha.passes⟩

/-! ### What an accepted command reaches after the works of the frame end -/

/-- `Reaches r s n t`: command `n` with request `r` takes the node from `s` to `t`. Eight commands read and no more, and
each of the others but NODE RESET has a block of its own (R105 to R114, R128, R144 to R163). -/
inductive Reaches (r : Request) (s : State) : CommandName → State → Prop
  | reads (n : CommandName) (own : n ≠ .nodeReset) : Reaches r s n s
  | address (a : Address) : Reaches r s .assignAddress { s with cmd := { s.cmd with address := a } }
  | parameter (p : Parameters) (o : Vector OutputChannel 8) (q : NoticeQueue) :
      Reaches r s .setParameter { s with cmd := { s.cmd with params := p }, outputs := o, notices := q }
  | map (n : CommandName) (own : n ∈ [.writeEntries, .copyActive, .commit, .cancelCommit]) (m : MapStore) :
      Reaches r s n { s with map := m }
  | counters (n : CommandName) (own : n ∈ [.setCounter, .clearCounters, .gate]) (b : CounterBank) :
      Reaches r s n { s with counters := b }
  | snaps (n : CommandName) (own : n ∈ [.takeSnapshot, .cancelSnapshot, .releaseSnapshot]) (u : SnapshotUnit) :
      Reaches r s n { s with snaps := u }
  | reset : Reaches r s .nodeReset (doNodeReset r s).1

theorem doCommand_reaches (n : CommandName) (r : Request) (k : Capture) (s : State) :
    Reaches r s n (doCommand n r k s).1 := by
  cases n
  case assignAddress => exact .address _
  case nodeReset => exact .reset
  case setParameter =>
    obtain ⟨p, o, q, h⟩ := doSetParameter_eq r s
    show Reaches r s _ (doSetParameter r s).1
    rw [h]
    exact .parameter p o q
  case getParameter => unfold doCommand doGetParameter; dsimp only; split <;> exact .reads _ (by decide)
  case getCounterControl => unfold doCommand doGetCounterControl; dsimp only; split <;> exact .reads _ (by decide)
  case readSnapshot => unfold doCommand doReadSnapshot; dsimp only; split <;> exact .reads _ (by decide)
  case identify | readStatus | readEntries | acknowledgeNotice | readCounters => exact .reads _ (by decide)
  case writeEntries =>
    unfold doCommand doWriteEntries
    dsimp only
    split
    · exact .map _ (by decide) _
    · exact .reads _ (by decide)
  case copyActive | commit | cancelCommit => exact .map _ (by decide) _
  case setCounter =>
    unfold doCommand doSetCounter
    dsimp only
    split
    · exact .counters _ (by decide) _
    · exact .reads _ (by decide)
  case clearCounters | gate => exact .counters _ (by decide) _
  case takeSnapshot =>
    unfold doCommand doTakeSnapshot
    dsimp only
    split
    · exact .reads _ (by decide)
    · exact .snaps _ (by decide) _
  case cancelSnapshot | releaseSnapshot => exact .snaps _ (by decide) _

/-- What the execution of a frame end's command comes to: the response record, and what an accepted command reaches. -/
theorem Taking.run_eq (t : Taking) (k : Capture) (s : State) :
    ∃ u x, t.run k s = { u with cmd := { u.cmd with response := x } }
      ∧ (u = s ∨ ∃ r n, t = .accepted r n ∧ Reaches r s n u) := by
  cases t with
  | nothing => exact ⟨s, s.cmd.response, rfl, .inl rfl⟩
  | turned r t =>
    obtain ⟨x, h⟩ := s.answer_eq r (.unsent { seq := r.seq, tag := r.tag, status := t.1, data := t.2 })
    exact ⟨s, x, h, .inl rfl⟩
  | accepted r n =>
    obtain ⟨x, h⟩ := (doCommand n r k s).1.answer_eq r (okAnswer n r (doCommand n r k s).2)
    exact ⟨_, x, h, .inr ⟨r, n, rfl, doCommand_reaches n r k s⟩⟩

end Sys2Proof.Machine
end

section
/-! PROOFS. The laws of the link state under every happening (O57): a change of link state keeps them by itself, and the
flywheel limit, which they rest on, changes at a GOOD end alone, where the node is LOCKED. -/

namespace Sys2Proof.Machine

/-! ### The flywheel limit (R112, R113) -/

/-- SET PARAMETER leaves the table with its parameter put, whatever its owner then does (R113). -/
theorem doSetParameter_params {r : Request} {p : ParamId} (h : paramOf r.p0 = some p) (s : State) :
    (doSetParameter r s).1.cmd.params = s.cmd.params.put p r.p1 := by
  unfold doSetParameter
  rw [h]
  dsimp only
  split
  · next hs => exact hs.symm
  · cases p
    case holdLimit c =>
      unfold State.paramChanged State.limitLowered
      dsimp only
      split <;> rfl
    all_goals rfl

/-- Where a command meets the other works it leaves the flywheel limit alone. -/
theorem meetCommand_flywheelLimit (n : CommandName) (r : Request) (b : Bool) (s : State) :
    (meetCommand n r b s).cmd.params.flywheelLimit = s.cmd.params.flywheelLimit := by
  cases n
  case setParameter =>
    show (meetParameter r b s).cmd.params.flywheelLimit = _
    unfold meetParameter
    split
    · next h => rw [doSetParameter_params h.1]; rfl
    · rfl
  case nodeReset =>
    unfold meetCommand
    dsimp only
    split <;> rfl
  all_goals rfl

theorem Closing.Commanded.flywheelLimit {w v : Closing} (h : w.Commanded v) :
    v.s.cmd.params.flywheelLimit = w.s.cmd.params.flywheelLimit := by
  cases h with
  | marks m _ => rfl
  | resent => rfl
  | accepted r n q _ => exact meetCommand_flywheelLimit n r _ _

theorem Closing.item_flywheelLimit (w : Closing) (i : EndItem) :
    (w.item i).s.cmd.params.flywheelLimit = w.s.cmd.params.flywheelLimit := by
  cases i with
  | resend => rfl
  | delivery =>
    show (w.s.settleItem _).cmd.params.flywheelLimit = _
    unfold State.settleItem
    split
    · rfl
    · rfl
    · split
      · split <;> rfl
      all_goals rfl
  | jumpRaise =>
    show w.jumpRaise.s.cmd.params.flywheelLimit = _
    unfold Closing.jumpRaise
    split <;> rfl
  | expiryRaise =>
    show w.expiryRaise.s.cmd.params.flywheelLimit = _
    unfold Closing.expiryRaise
    split <;> rfl
  | copyCompletion =>
    show w.copyCompletion.s.cmd.params.flywheelLimit = _
    unfold Closing.copyCompletion
    split <;> rfl
  | command => exact w.command_commanded.flywheelLimit

theorem Closing.meet_flywheelLimit (w : Closing) (items : List EndItem) :
    (w.meet items).s.cmd.params.flywheelLimit = w.s.cmd.params.flywheelLimit := by
  unfold Closing.meet
  induction items generalizing w with
  | nil => rfl
  | cons i rest ih => exact (ih _).trans (w.item_flywheelLimit i)

theorem settled_flywheelLimit (f : FrameInFlight) (e : FrameClose) (s : State) :
    (Closing.settled f e s).s.cmd.params.flywheelLimit = s.cmd.params.flywheelLimit :=
  ((Closing.begin f e s).meet_flywheelLimit _).trans (by rw [Closing.begin_cmd])

theorem counted_flywheelLimit (f : FrameInFlight) (e : FrameClose) (s : State) :
    (Closing.settled f e s).beforeCapture.count.s.cmd.params.flywheelLimit = s.cmd.params.flywheelLimit := by
  obtain ⟨-, -, -, -, -, -, -, hcmd, -⟩ := Closing.count_state (Closing.settled f e s).beforeCapture
  obtain ⟨l, o, n, hb⟩ := (Closing.settled f e s).beforeCapture_eq
  rw [hcmd, hb]
  exact settled_flywheelLimit f e s

@[simp] theorem State.answer_params (s : State) (r : Request) (x : ResponseRecord) :
    (s.answer r x).cmd.params = s.cmd.params := by
  obtain ⟨y, h⟩ := s.answer_eq r x
  rw [h]

/-- SET PARAMETER and NODE RESET alone change the parameters after the works of the frame end (R112). -/
theorem Reaches.params {r : Request} {n : CommandName} (hs : n ≠ .setParameter) (hn : n ≠ .nodeReset)
    {s t : State} (h : Reaches r s n t) : t.cmd.params = s.cmd.params := by
  cases h with
  | parameter _ _ _ => exact absurd rfl hs
  | reset => exact absurd rfl hn
  | reads _ _ | address _ | map _ _ _ | counters _ _ _ | snaps _ _ _ => rfl

/-- The flywheel limit is 1 to 15 (R112). -/
abbrev Parameters.LimitFits (t : Parameters) : Prop := 1 ≤ t.flywheelLimit ∧ t.flywheelLimit ≤ 15

/-- A parameter that is accepted leaves the flywheel limit in its range (R112, R113). -/
theorem Parameters.limitFits_put {t : Parameters} {p : ParamId} {w : Word} (h : t.LimitFits)
    (ha : p.accepts w = true) : (t.put p w).LimitFits := by
  cases p
  case flywheelLimit => simpa [ParamId.accepts, LimitFits, put] using ha
  all_goals exact h

theorem checkSetParameter_eq_none {r : Request} (h : checkSetParameter r = none) :
    ∃ p, paramOf r.p0 = some p ∧ p.accepts r.p1 = true := by
  obtain ⟨-, h⟩ := require_eq_none.1 h
  split at h
  · next p hp => exact ⟨p, hp, (require_eq_none.1 h).1⟩
  · cases h

/-- An accepted command leaves the flywheel limit in its range. -/
theorem doCommand_limitFits {n : CommandName} {r : Request} {t : State} (hc : checkCommand n r t = none) (k : Capture)
    {s : State} (h : s.cmd.params.LimitFits) : (doCommand n r k s).1.cmd.params.LimitFits := by
  by_cases hs : n = .setParameter
  · subst hs
    obtain ⟨p, hp, ha⟩ := checkSetParameter_eq_none hc
    show (doSetParameter r s).1.cmd.params.LimitFits
    rw [doSetParameter_params hp]
    exact Parameters.limitFits_put h ha
  · by_cases hn : n = .nodeReset
    · subst hn; exact (by decide : Parameters.default.LimitFits)
    · rw [(doCommand_reaches n r k s).params hs hn]; exact h

/-- The limit changes at a GOOD end alone, and stays in its range (R96, R112). -/
theorem closeFrame_limit {f : FrameInFlight} {e : FrameClose} {s : State} (h : s.cmd.params.LimitFits) :
    (closeFrame f e s).s.cmd.params.LimitFits
      ∧ (f.outcome e.check ≠ .good →
        (closeFrame f e s).s.cmd.params.flywheelLimit = s.cmd.params.flywheelLimit) := by
  have hcount := counted_flywheelLimit f e s
  have hfits : (Closing.settled f e s).beforeCapture.count.s.cmd.params.LimitFits := by
    unfold Parameters.LimitFits; rw [hcount]; exact h
  show ((Closing.settled f e s).taking.run _ _).cmd.params.LimitFits ∧ (_ →
    ((Closing.settled f e s).taking.run _ _).cmd.params.flywheelLimit = _)
  cases ht : (Closing.settled f e s).taking with
  | nothing => exact ⟨hfits, fun _ => hcount⟩
  | turned r t => simp only [Taking.run, State.answer_params]; exact ⟨hfits, fun _ => hcount⟩
  | accepted r n =>
    obtain ⟨-, hgood, -, -, t, hpass⟩ := accepts_of_settled ht
    simp only [Taking.run, State.answer_params]
    exact ⟨doCommand_limitFits hpass _ hfits, fun hne => absurd hgood hne⟩

/-! ### The Link Receiver by itself -/

/-- The laws of the link state that the Link Receiver keeps by itself under flywheel limit `limit` (R14, R17 to R22). -/
structure LinkReceiver.Lawful (l : LinkReceiver) (limit : Nat) : Prop where
  expected : l.expectedPos.isSome = (l.state == .locked || l.state == .flywheel)
  candidate : l.candidatePos.isSome = (l.state == .verify)
  flag : l.state = .locked ∨ l.state = .flywheel → l.lostFlag = false
  misses : l.missCount ≤ 15
  locked : l.state = .locked → l.missCount = 0
  flywheel : l.state = .flywheel → l.missCount < limit

/-- A forwarded frame is in flight only while LOCKED (R92). -/
def State.ForwardsInLock (s : State) : Prop :=
  ∀ f, s.frame = some f → f.regenerated = false → s.link.state = .locked

theorem linkLaw_iff {s : State} : LinkLaw s ↔
    s.link.Lawful s.cmd.params.flywheelLimit ∧ s.cmd.params.LimitFits ∧ s.ForwardsInLock := by
  constructor
  · rintro ⟨h1, h2, h3, h4, h5, h6, h7, h8⟩
    exact ⟨⟨h1, h2, h3, h5, h6, h7⟩, h4, h8⟩
  · rintro ⟨⟨h1, h2, h3, h5, h6, h7⟩, h4, h8⟩
    exact ⟨h1, h2, h3, h4, h5, h6, h7, h8⟩

section
variable {l : LinkReceiver} {limit : Nat}

/-- In HUNT no position is held (R16). -/
theorem LinkReceiver.lawful_hunt (hs : l.state = .hunt) (he : l.expectedPos = none) (hc : l.candidatePos = none)
    (hm : l.missCount ≤ 15) : l.Lawful limit := by
  constructor <;> simp [hs, he, hc, hm]

/-- In VERIFY the candidate position alone is held (R17). -/
theorem LinkReceiver.lawful_toVerify (h : l.missCount ≤ 15) (p : BitTime) : (l.toVerify p).Lawful limit := by
  constructor <;> simp [toVerify, h]

/-- LOCKED by a sync word where it was due (R18, R20). -/
theorem LinkReceiver.Lawful.foundAt (h : l.Lawful limit) (hs : l.state = .locked ∨ l.state = .flywheel) (p : BitTime) :
    (l.foundAt p).Lawful limit := by
  have hc := h.candidate
  have hf := h.flag hs
  constructor <;> rcases hs with hs | hs <;> simp_all [LinkReceiver.foundAt]

/-- FLYWHEEL, below the limit (R19, R20). -/
theorem LinkReceiver.Lawful.missedAt (h : l.Lawful limit) (hs : l.state = .locked ∨ l.state = .flywheel) (p : BitTime)
    {n : Nat} (hn : n < limit) (hl : limit ≤ 15) : (l.missedAt p n).Lawful limit := by
  have hc := h.candidate
  have hf := h.flag hs
  constructor <;> rcases hs with hs | hs <;> simp_all [LinkReceiver.missedAt] <;> omega

end

/-! ### The happenings' own operations -/

theorem LinkLaw.next {s t : State} (h : LinkLaw s) (hp : t.cmd.params = s.cmd.params)
    (hl : t.link.Lawful s.cmd.params.flywheelLimit) (hf : t.ForwardsInLock) : LinkLaw t := by
  obtain ⟨-, hfit, -⟩ := linkLaw_iff.1 h
  exact linkLaw_iff.2 ⟨hp ▸ hl, hp ▸ hfit, hf⟩

/-- A happening that leaves the Link Receiver and the parameters, and of a frame in flight whether it is regenerated. -/
theorem LinkLaw.stands {s t : State} (h : LinkLaw s) (hl : t.link = s.link) (hp : t.cmd.params = s.cmd.params)
    (hf : ∀ g, t.frame = some g → ∃ f, s.frame = some f ∧ g.regenerated = f.regenerated) : LinkLaw t := by
  obtain ⟨hlaw, -, hfw⟩ := linkLaw_iff.1 h
  refine h.next hp (hl ▸ hlaw) fun g hg hr => ?_
  obtain ⟨f, hf, he⟩ := hf g hg
  rw [hl]
  exact hfw f hf (he ▸ hr)

theorem LinkLaw.beginFrame {s : State} (h : LinkLaw s) {b : Bool} (hb : b = false → s.link.state = .locked)
    (t : BitTime) : LinkLaw (s.beginFrame b t) :=
  h.next rfl (linkLaw_iff.1 h).1 fun _ hf hr => hb (by cases hf; exact hr)

/-- Outside LOCKED no frame in flight is forwarded, so a happening may leave it in any link state (R92). -/
theorem LinkLaw.unlocked {s t : State} (h : LinkLaw s) (hs : s.link.state ≠ .locked) (hf : t.frame = s.frame) :
    t.ForwardsInLock :=
  fun f hf' hr => absurd (h.forwarded f (hf ▸ hf') hr) hs

theorem LinkLaw.toVerify {s : State} (h : LinkLaw s) (hs : s.link.state ≠ .locked) (p : BitTime) :
    LinkLaw { s with link := s.link.toVerify p } :=
  h.next rfl (LinkReceiver.lawful_toVerify h.misses p) (h.unlocked hs rfl)

theorem LinkLaw.failVerify {s : State} (h : LinkLaw s) (hs : s.link.state ≠ .locked) : LinkLaw s.failVerify := by
  unfold State.failVerify
  dsimp only
  split <;> exact h.next rfl (LinkReceiver.lawful_hunt rfl rfl rfl h.misses) (h.unlocked hs rfl)

theorem LinkLaw.lockAt {s : State} (h : LinkLaw s) (hs : s.link.state ≠ .locked) (p : BitTime) :
    LinkLaw (s.lockAt p) := by
  unfold State.lockAt
  dsimp only
  split <;> refine h.next rfl ?_ (h.unlocked hs rfl) <;> constructor <;> simp

theorem LinkLaw.relock {s : State} (h : LinkLaw s) (hs : s.link.state = .locked) (p : BitTime) :
    LinkLaw (s.relock p) := by
  obtain ⟨⟨h1, h2, h3, h4, h5, h6⟩, -, hfw⟩ := linkLaw_iff.1 h
  unfold State.relock
  split
  · exact LinkLaw.beginFrame (s := { s with link := { s.link with relockWait := false } })
      (h.next rfl ⟨h1, h2, h3, h4, h5, h6⟩ hfw) (fun _ => hs) _
  · exact h.next rfl ⟨h1, h2, h3, h4, h5, h6⟩ hfw

theorem LinkLaw.foundAt {s : State} (h : LinkLaw s) (hs : s.link.state = .locked ∨ s.link.state = .flywheel)
    (p : BitTime) : LinkLaw { s with link := s.link.foundAt p } :=
  h.next rfl ((linkLaw_iff.1 h).1.foundAt hs p) fun _ _ _ => rfl

/-- A miss that reaches `n`: a regenerated frame begins, and the node is below the limit or in HUNT (R19 to R21). -/
theorem LinkLaw.missSync {s : State} (h : LinkLaw s) (hs : s.link.state = .locked ∨ s.link.state = .flywheel)
    (p : BitTime) {n : Nat} (hn : n ≤ s.cmd.params.flywheelLimit) : LinkLaw (s.missSync p n) := by
  obtain ⟨hlaw, ⟨-, hle⟩, -⟩ := linkLaw_iff.1 h
  unfold State.missSync
  dsimp only
  split
  · next hlt => exact h.next rfl (hlaw.missedAt hs p hlt hle) (by intro f hf hr; cases hf; cases hr)
  · exact h.next rfl (LinkReceiver.lawful_hunt rfl rfl rfl (hn.trans hle)) (by intro f hf hr; cases hf; cases hr)

/-! ### Every happening -/

theorem LinkLaw.of_happens {s t u : State} (hs : LinkLaw s) (h : happens s t = .next u) (ht : LinkLaw t) :
    LinkLaw u := by
  rcases happens_cases h with rfl | rfl
  · exact hs
  · exact ht

/-- The reset values of the Link Receiver and the parameters, with no frame in flight (R14, R112). -/
theorem linkLaw_of_reset {t : State} (hl : t.link = LinkReceiver.reset) (hp : t.cmd.params = Parameters.default)
    (hf : t.frame = none) : LinkLaw t := by
  refine linkLaw_iff.2 ⟨?_, ?_, fun g hg => by rw [hf] at hg; cases hg⟩
  · rw [hl]; exact LinkReceiver.lawful_hunt rfl rfl rfl (Nat.zero_le _)
  · rw [hp]; decide

theorem LinkLaw.frameAt {s t : State} {f : FrameInFlight} (h : LinkLaw s) {n : Nat} (hf : s.frameAt n = some f)
    (hl : t.link = s.link) (hp : t.cmd.params = s.cmd.params)
    (ht : ∃ g, t.frame = some g ∧ g.regenerated = f.regenerated) : LinkLaw t := by
  obtain ⟨g, hg, he⟩ := ht
  refine h.stands hl hp fun g' hg' => ⟨f, (State.frameAt_eq_some.1 hf).1, ?_⟩
  rw [hg] at hg'
  cases hg'
  exact he

theorem State.headerTime_stands (s : State) (f : FrameInFlight) (w : Word) :
    (s.headerTime f w).link = s.link ∧ (s.headerTime f w).cmd = s.cmd
      ∧ ∃ g, (s.headerTime f w).frame = some g ∧ g.regenerated = f.regenerated := by
  obtain ⟨-, -, hl⟩ := State.fireIfDue_line { s with map := s.map.atHeader }
  have hc : (State.fireIfDue { s with map := s.map.atHeader }).cmd = s.cmd := by
    unfold State.fireIfDue
    split <;> rfl
  exact ⟨hl, hc, _, rfl, rfl⟩

theorem State.commandRegion_stands (s : State) (f : FrameInFlight) (w p0 p1 p2 p3 : Word) :
    (s.commandRegion f w p0 p1 p2 p3).link = s.link ∧ (s.commandRegion f w p0 p1 p2 p3).cmd.params = s.cmd.params
      ∧ ∃ g, (s.commandRegion f w p0 p1 p2 p3).frame = some g ∧ g.regenerated = f.regenerated := by
  unfold State.commandRegion
  dsimp only
  split <;> exact ⟨rfl, rfl, _, rfl, rfl⟩

theorem State.responseRegion_stands (s : State) (f : FrameInFlight) (w d0 d1 d2 d3 : Word) :
    (s.responseRegion f w d0 d1 d2 d3).link = s.link ∧ (s.responseRegion f w d0 d1 d2 d3).cmd = s.cmd
      ∧ ∃ g, (s.responseRegion f w d0 d1 d2 d3).frame = some g ∧ g.regenerated = f.regenerated := by
  unfold State.responseRegion
  dsimp only
  split
  · split <;> exact ⟨rfl, rfl, _, rfl, rfl⟩
  · exact ⟨rfl, rfl, _, rfl, rfl⟩

/-- A frame end moves E and the amounts of the Link Receiver, and at a GOOD end, which is one in LOCKED, the limit. -/
theorem LinkLaw.closeFrame {s : State} {f : FrameInFlight} (h : LinkLaw s) (hf : s.frame = some f) (e : FrameClose) :
    LinkLaw (closeFrame f e s).s := by
  obtain ⟨⟨h1, h2, h3, h4, h5, h6⟩, hfit, hfw⟩ := linkLaw_iff.1 h
  obtain ⟨-, -, hframe, hlink, -⟩ := closeFrame_host f e s
  obtain ⟨hfit', hlimit⟩ := closeFrame_limit (f := f) (e := e) hfit
  refine linkLaw_iff.2 ⟨?_, hfit', fun g hg => by rw [hframe] at hg; cases hg⟩
  rw [hlink]
  refine ⟨h1, h2, h3, h4, h5, fun hs => ?_⟩
  by_cases hgood : f.outcome e.check = .good
  · have hreg : f.regenerated = false := by
      unfold FrameInFlight.outcome at hgood
      split at hgood
      · cases hgood
      · simpa using ‹¬f.regenerated = true›
    exact absurd (hs.symm.trans (hfw f hf hreg)) (by decide)
  · rw [hlimit hgood]
    exact h6 hs

theorem exec_linkLaw {i : Instr} {s t : State} (hs : LinkLaw s) (h : exec i s = .next t) : LinkLaw t := by
  cases i
  case powerOn p =>
    unfold exec execPowerOn at h
    cases h
    split
    · exact linkLaw_of_reset rfl rfl rfl
    · exact linkLaw_of_reset rfl rfl rfl
  case resetPinLow p => exact hs.of_happens h (linkLaw_of_reset rfl rfl rfl)
  case resetPinRelease p =>
    unfold exec execResetPinRelease at h
    cases h
    split
    · exact linkLaw_of_reset rfl rfl rfl
    · exact hs
  case startupIdleFillEnds =>
    refine hs.of_happens h ?_
    split
    · exact hs.beginFrame (by rintro ⟨⟩) _
    · exact hs
  case regeneratedFrameStart =>
    refine hs.of_happens h ?_
    split
    · split
      · exact hs.beginFrame (by rintro ⟨⟩) _
      · exact hs
    · exact hs
  case syncFoundInHunt p =>
    refine hs.of_happens h ?_
    split
    · next hl => exact hs.toVerify (by simp_all) p
    · exact hs
  case candidateCheckWord content check =>
    refine hs.of_happens h ?_
    split
    · next hl =>
      obtain ⟨hv, -⟩ : s.link.state = .verify ∧ s.link.candidateChecked = false := by simpa using hl
      split
      · obtain ⟨⟨h1, h2, h3, h4, h5, h6⟩, -, hfw⟩ := linkLaw_iff.1 hs
        exact hs.next rfl ⟨h1, h2, h3, h4, h5, h6⟩ hfw
      · exact hs.failVerify (by simp [hv])
    · exact hs
  case secondSyncJudged window =>
    refine hs.of_happens h ?_
    split
    · next p _ =>
      split
      · next hl =>
        obtain ⟨hv, -⟩ : s.link.state = .verify ∧ s.link.candidateChecked = true := by simpa using hl
        split
        · exact (hs.lockAt (by simp [hv]) _).relock (by unfold State.lockAt; dsimp only; split <;> rfl) _
        · exact hs.failVerify (by simp [hv])
      · exact hs
    · exact hs
  case syncFoundInLocked =>
    refine hs.of_happens h ?_
    split
    · next _ _ p _ _ =>
      split
      · next hl =>
        have hf := hs.foundAt (.inl (by simpa using hl)) p
        dsimp only
        split
        · exact hf.relock rfl p
        · exact hf.beginFrame (fun _ => rfl) _
      · exact hs
    · exact hs
  case syncMissInLocked =>
    refine hs.of_happens h ?_
    split
    · next _ _ p _ _ =>
      split
      · next hl => exact hs.missSync (.inl (by simpa using hl)) p hs.limit.1
      · exact hs
    · exact hs
  case syncFoundInFlywheel =>
    refine hs.of_happens h ?_
    split
    · next _ _ p _ _ =>
      split
      · next hl => exact (hs.foundAt (.inr (by simpa using hl)) p).beginFrame (fun _ => rfl) _
      · exact hs
    · exact hs
  case syncMissInFlywheel =>
    refine hs.of_happens h ?_
    split
    · next _ _ p _ _ =>
      split
      · next hl =>
        have hl : s.link.state = .flywheel := by simpa using hl
        exact hs.missSync (.inr hl) p (hs.flywheel hl)
      · exact hs
    · exact hs
  case syncFoundElsewhereInFlywheel p =>
    refine hs.of_happens h ?_
    split
    · next hl =>
      obtain ⟨hl, -⟩ : s.link.state = .flywheel ∧ s.link.due ≠ some p := by simpa using hl
      exact hs.toVerify (by simp [hl]) p
    · exact hs
  case headerTime w =>
    refine hs.of_happens h ?_
    split
    · next f hf =>
      obtain ⟨hl, hc, hg⟩ := s.headerTime_stands f w
      exact hs.frameAt hf hl (by rw [hc]) hg
    · exact hs
  case commitFire w =>
    refine hs.of_happens h ?_
    split
    · next f _ hf _ =>
      obtain ⟨hl, hc, hg⟩ := s.headerTime_stands f w
      exact hs.frameAt hf hl (by rw [hc]) hg
    · exact hs
  case slotInFlight w =>
    refine hs.of_happens h ?_
    split
    · next f hf =>
      split
      · exact hs.stands rfl rfl fun g hg => ⟨f, hf, by cases hg; rfl⟩
      · exact hs
    · exact hs
  case commandRegionHeader w names p0 p1 p2 p3 =>
    refine hs.of_happens h ?_
    split
    · next f hf =>
      obtain ⟨hl, hc, hg⟩ := s.commandRegion_stands f w p0 p1 p2 p3
      split
      · exact hs
      · exact hs.frameAt hf hl hc hg
    · exact hs
  case responseRegionHeader w d0 d1 d2 d3 =>
    refine hs.of_happens h ?_
    split
    · next f hf =>
      obtain ⟨hl, hc, hg⟩ := s.responseRegion_stands f w d0 d1 d2 d3
      exact hs.frameAt hf hl (by rw [hc]) hg
    · exact hs
  case sampleArrival c v => exact hs.of_happens h (hs.stands rfl rfl fun g hg => ⟨g, hg, rfl⟩)
  all_goals
    rcases exec_close_cases rfl h with rfl | ⟨f, -, hf, -, rfl⟩
    · exact hs
    · exact hs.closeFrame hf _

/-- Settles O57: every row of the table keeps the laws of the link state. -/
theorem linkStateStaysLawful : Obligations.LinkStateStaysLawful := by
  unfold Obligations.LinkStateStaysLawful
  intro s t hs h
  unfold step at h
  split at h
  · cases h; exact hs
  · next i rest _ => exact exec_linkLaw (hs.stands (t := { s with pending := rest }) rfl rfl fun g hg => ⟨g, hg, rfl⟩) h

end Sys2Proof.Machine
end

section
/-! PROOFS. Every happening goes on and leaves the queue of happenings alone, and the reset pin holds all but two of
them (O2; R15, assumptions 5 and 19). -/

namespace Sys2Proof.Machine

/-! ### The happenings' own operations leave the queue alone -/

theorem State.failVerify_pending (s : State) : s.failVerify.pending = s.pending := by
  unfold State.failVerify
  dsimp only
  split <;> rfl

theorem State.lockAt_pending (s : State) (p : BitTime) : (s.lockAt p).pending = s.pending := by
  unfold State.lockAt
  dsimp only
  split <;> rfl

theorem State.relock_pending (s : State) (p : BitTime) : (s.relock p).pending = s.pending := by
  unfold State.relock
  split <;> rfl

theorem State.missSync_pending (s : State) (p : BitTime) (n : Nat) : (s.missSync p n).pending = s.pending := by
  unfold State.missSync
  dsimp only
  split <;> rfl

theorem State.headerTime_pending (s : State) (f : FrameInFlight) (w : Word) :
    (s.headerTime f w).pending = s.pending := by
  show (State.fireIfDue _).pending = _
  unfold State.fireIfDue
  split <;> rfl

theorem State.commandRegion_pending (s : State) (f : FrameInFlight) (w p0 p1 p2 p3 : Word) :
    (s.commandRegion f w p0 p1 p2 p3).pending = s.pending := by
  unfold State.commandRegion
  dsimp only
  split <;> rfl

theorem State.responseRegion_pending (s : State) (f : FrameInFlight) (w d0 d1 d2 d3 : Word) :
    (s.responseRegion f w d0 d1 d2 d3).pending = s.pending := by
  unfold State.responseRegion
  dsimp only
  split
  · split <;> rfl
  · rfl

theorem atFrameEnd_pending (p : Closing → Bool) (e : FrameClose) (s : State) :
    (atFrameEnd p e s).pending = s.pending := by
  unfold atFrameEnd
  split
  · next f _ =>
    split
    · exact (closeFrame_host f e s).2.1
    · rfl
  · rfl

/-! ### Every happening -/

/-- Every happening but power-on and the release is one that the reset pin holds (R15), and it leaves the queue
alone. -/
theorem exec_eq_happens {i : Instr} (hp : ∀ t, i ≠ .powerOn t) (hr : ∀ t, i ≠ .resetPinRelease t) (s : State) :
    ∃ t, exec i s = happens s t ∧ t.pending = s.pending := by
  cases i
  case powerOn p => exact absurd rfl (hp p)
  case resetPinRelease p => exact absurd rfl (hr p)
  case startupIdleFillEnds => exact ⟨_, rfl, by split <;> rfl⟩
  case regeneratedFrameStart =>
    refine ⟨_, rfl, ?_⟩
    split
    · split <;> rfl
    · rfl
  case resetPinLow p => exact ⟨_, rfl, rfl⟩
  case syncFoundInHunt p => exact ⟨_, rfl, by split <;> rfl⟩
  case syncFoundElsewhereInFlywheel p => exact ⟨_, rfl, by split <;> rfl⟩
  case candidateCheckWord c w =>
    refine ⟨_, rfl, ?_⟩
    split
    · split
      · rfl
      · exact s.failVerify_pending
    · rfl
  case secondSyncJudged w =>
    refine ⟨_, rfl, ?_⟩
    split
    · split
      · split
        · rw [State.relock_pending, State.lockAt_pending]
        · exact s.failVerify_pending
      · rfl
    · rfl
  case syncFoundInLocked =>
    refine ⟨_, rfl, ?_⟩
    split
    · split
      · dsimp only
        split
        · rw [State.relock_pending]
        · rfl
      · rfl
    · rfl
  case syncMissInLocked =>
    refine ⟨_, rfl, ?_⟩
    split
    · split
      · exact s.missSync_pending ..
      · rfl
    · rfl
  case syncFoundInFlywheel =>
    refine ⟨_, rfl, ?_⟩
    split
    · split <;> rfl
    · rfl
  case syncMissInFlywheel =>
    refine ⟨_, rfl, ?_⟩
    split
    · split
      · exact s.missSync_pending ..
      · rfl
    · rfl
  case headerTime w =>
    refine ⟨_, rfl, ?_⟩
    split
    · exact s.headerTime_pending ..
    · rfl
  case commitFire w =>
    refine ⟨_, rfl, ?_⟩
    split
    · exact s.headerTime_pending ..
    · rfl
  case slotInFlight w =>
    refine ⟨_, rfl, ?_⟩
    split
    · split <;> rfl
    · rfl
  case commandRegionHeader w names p0 p1 p2 p3 =>
    refine ⟨_, rfl, ?_⟩
    split
    · split
      · rfl
      · exact s.commandRegion_pending ..
    · rfl
  case responseRegionHeader w d0 d1 d2 d3 =>
    refine ⟨_, rfl, ?_⟩
    split
    · exact s.responseRegion_pending ..
    · rfl
  case sampleArrival c v => exact ⟨_, rfl, rfl⟩
  all_goals exact ⟨_, rfl, atFrameEnd_pending ..⟩

/-- Settles O2: power-on and the release go on by themselves, and every other happening as one the pin holds. -/
theorem everyHappeningGoesOn : Obligations.EveryHappeningGoesOn := by
  unfold Obligations.EveryHappeningGoesOn
  intro i s
  by_cases hp : ∃ t, i = .powerOn t
  · obtain ⟨t, rfl⟩ := hp
    exact ⟨⟨_, rfl, rfl⟩, fun _ h => absurd rfl (h t)⟩
  by_cases hr : ∃ t, i = .resetPinRelease t
  · obtain ⟨t, rfl⟩ := hr
    exact ⟨⟨_, rfl, by split <;> rfl⟩, fun _ _ h => absurd rfl (h t)⟩
  obtain ⟨t, he, hpend⟩ := exec_eq_happens (fun t h => hp ⟨t, h⟩) (fun t h => hr ⟨t, h⟩) s
  rw [he]
  refine ⟨⟨_, rfl, ?_⟩, fun h _ _ => happens_held h t⟩
  split
  · rfl
  · exact hpend

end Sys2Proof.Machine
end

section
/-! PROOFS. The resets (O3, O60), the node's own frames (O4), and the sync words found and missed outside the place O8
speaks of (O5, O6, O7, O9). -/

namespace Sys2Proof.Machine

/-! ### Power-on and the reset pin (R14, R15, R122) -/

/-- With one line, pin, notice queue and queue of happenings or another, the reset values are those of every block. -/
theorem atReset_cold (line : LineOut) (held : Bool) (q : NoticeQueue) (l : List Instr) :
    AtReset { State.cold line held with notices := q, pending := l } where
  idle := ⟨rfl, rfl⟩
  slots := ⟨rfl, fun src cls => by simp [State.cold, SlotEngine.empty, AmountTable.zero]⟩
  inputs c := by simp [State.cold, InputChannel.reset]
  outputs c := by simp [State.cold, State.sout, CommandUnit.reset, Parameters.default]
  params := ⟨rfl, rfl, rfl, rfl, rfl, fun c => by simp [State.cold, CommandUnit.reset, Parameters.default]⟩
  command := ⟨rfl, rfl⟩
  arbiter := ⟨rfl, rfl, rfl, rfl, rfl⟩
  counters := ⟨fun i => by
    have h : (State.cold line held).counters.bank[i] = Counter.reset := by simp [State.cold, CounterBank.reset]
    exact h ▸ ⟨rfl, by decide, rfl, rfl⟩, rfl⟩
  snaps := ⟨rfl, rfl, rfl, rfl, rfl⟩
  banks := ⟨⟨fun i => by simp [State.cold, MapStore.reset, MapBank.allPass, MapEntry.zero_bits], rfl⟩, rfl⟩
  link := ⟨rfl, rfl, rfl, rfl, rfl, rfl, rfl, rfl, rfl⟩
  records := ⟨rfl, rfl, rfl, rfl⟩

theorem State.started_eq (t : BitTime) :
    State.started t = { State.cold (.startup t) false with notices := NoticeQueue.restarted } := by
  have h : NoticeQueue.reset.raise 255#8 .none (.restarted .powerOrPin) = NoticeQueue.restarted := by decide
  exact congrArg (fun q => { State.cold (.startup t) false with notices := q }) h

/-- Settles O3: every block is at its reset values, with idle fill alone while the pin is held, and RESTARTED once it
runs. -/
theorem resetsSetEveryBlock : Obligations.ResetsSetEveryBlock := by
  unfold Obligations.ResetsSetEveryBlock
  refine ⟨?_, ?_, ?_⟩
  · intro i t s hi
    have he : exec i s = .next { State.cold (.held t) true with pending := s.pending } := by
      rcases hi with ⟨rfl, hh⟩ | ⟨rfl, hh⟩
      · exact happens_up hh _
      · simp [exec, execPowerOn, hh]
    have hreset : AtReset { State.cold (.held t) true with pending := s.pending } := atReset_cold ..
    exact ⟨_, he, hreset, rfl, rfl, rfl, rfl, rfl, fun c => (hreset.outputs c).2, rfl⟩
  · intro i t s hi
    have he : exec i s = .next { State.started t with pending := s.pending } := by
      rcases hi with ⟨rfl, hh⟩ | ⟨rfl, hh⟩
      · simp [exec, execPowerOn, hh]
      · simp [exec, execResetPinRelease, hh]
    rw [State.started_eq] at he
    have hreset := atReset_cold (.startup t) false NoticeQueue.restarted s.pending
    exact ⟨_, he, hreset, rfl, rfl, rfl, rfl, rfl, fun c => (hreset.outputs c).2, rfl⟩
  · intro t s hh
    simp [exec, execResetPinRelease, hh]

/-! ### The node at reset (R14, R15, R122) -/

theorem conflictFree_allPass : ConflictFree MapBank.allPass := fun i j _ hi _ => by
  simp [MapBank.allPass, MapEntry.zero, MapEntry.taps] at hi

/-- Settles O60: with no frame in flight, no copy and one notice, every invariant holds of the reset values. -/
theorem resetStateIsLawful : Obligations.ResetStateIsLawful := by
  have noFrame : ∀ f, State.reset.frame ≠ some f := by rintro f ⟨⟩
  have inFlight : ∀ {p : FrameInFlight → Prop}, ∀ f, State.reset.frame = some f → p f := fun f h => absurd h (noFrame f)
  have noCopy : State.reset.map.copy = none := rfl
  have hmap : MapLaw State.reset :=
    ⟨conflictFree_allPass, fun h => absurd rfl h, fun h => absurd rfl h, fun k h => (by cases h), fun h => (by cases h)⟩
  have hpass : UnaddressedLaw State.reset := by
    refine ⟨fun _ k i => ?_, fun _ => ⟨rfl, rfl⟩, fun _ r h => (by cases h), by decide⟩
    cases k <;> simp [State.reset, State.cold, MapStore.reset, MapStore.bank, MapBank.allPass, MapEntry.zero]
  have hlive : LiveWithinLimit State.reset := fun c v age h => by simp [State.reset, State.cold] at h
  have hparams : ParametersInRange State.reset := by
    refine ⟨by decide, by decide, by decide, by decide, fun r hr n hn => ?_⟩
    obtain rfl := List.mem_singleton.1 hr
    cases hn
  exact ⟨atReset_cold .., rfl, rfl, rfl, rfl, rfl, ⟨_, rfl, rfl, rfl, rfl⟩, ⟨by decide, by decide⟩,
    ⟨by decide, by decide, by decide, by decide, by decide⟩, hmap, hpass, hlive, hparams,
    ⟨fun a h => by rcases h with h | h <;> cases h⟩, ⟨rfl, rfl, fun h => by cases h⟩,
    linkLaw_of_reset rfl rfl rfl, ⟨inFlight, inFlight, inFlight, inFlight⟩, inFlight,
    ⟨List.nodup_nil, inFlight, fun _ => rfl⟩, fun h => absurd noCopy h, fun h => absurd noCopy h⟩

/-! ### The node's own frames (R15, R25) -/

/-- Settles O4: each occasion begins a frame where the line before it ends. -/
theorem regeneratedFramesKeepTheLineBusy : Obligations.RegeneratedFramesKeepTheLineBusy := by
  unfold Obligations.RegeneratedFramesKeepTheLineBusy
  intro s hup hf
  refine ⟨fun since hl => ?_, fun start fill hl hs => ?_, fun hs => ?_⟩
  · have he : exec .startupIdleFillEnds s = .next (s.beginFrame true (since + 2464)) := by
      simp [exec, execStartupIdleFillEnds, happens_up hup, hl, hf, Config.startupFill]
    have hb := frameBegun_beginFrame s true (since + 2464)
    rw [hl, show since + 2464 - (LineOut.startup since).freeFrom = 2464 from Nat.add_sub_cancel_left ..] at hb
    exact ⟨_, he, hb, rfl⟩
  · have he : exec .regeneratedFrameStart s = .next (s.beginFrame true (start + 2464)) := by
      rcases hs with hs | hs <;>
        simp [exec, execRegeneratedFrameStart, happens_up hup, hl, hf, hs, Config.frameBits]
    have hb := frameBegun_beginFrame s true (start + 2464)
    rw [hl, show start + 2464 - (LineOut.frame start fill).freeFrom = 0 from Nat.sub_self _] at hb
    exact ⟨_, he, hb, rfl⟩
  · have hne : ¬(s.link.state == .hunt || s.link.state == .verify) = true := by rcases hs with hs | hs <;> simp [hs]
    show happens s _ = _
    rw [happens_up hup]
    split
    · rw [if_neg hne]
    · rfl

/-! ### A sync word found, and the verification (R16, R17, R22) -/

/-- Settles O5: either row makes the sync word the candidate. -/
theorem foundSyncBecomesCandidate : Obligations.FoundSyncBecomesCandidate := by
  unfold Obligations.FoundSyncBecomesCandidate
  intro p s i hup hi
  have he : exec i s = .next { s with link := s.link.toVerify p } := by
    rcases hi with ⟨rfl, hl⟩ | ⟨rfl, hl, hd⟩
    · simp [exec, execSyncFoundInHunt, happens_up hup, hl]
    · simp [exec, execSyncFoundElsewhereInFlywheel, happens_up hup, hl, hd]
  exact ⟨_, he, rfl, rfl, rfl, rfl, rfl, rfl, rfl, rfl, rfl, rfl⟩

/-- A failed verification with the lost flag clear loses sync; with the flag set the link alone moves (R17, R22). -/
theorem State.failVerify_eq (s : State) :
    (s.link.lostFlag = false → s.failVerify = State.loseSync { s with link := s.link.toHunt })
      ∧ (s.link.lostFlag = true → s.failVerify = { s with link := s.link.toHunt }) := by
  unfold State.failVerify
  exact ⟨fun h => by simp [h], fun h => by simp [h]⟩

/-- Settles O6: either failure goes back to HUNT, and loses sync exactly where the lost flag was clear. -/
theorem failedVerificationReturnsToHunt : Obligations.FailedVerificationReturnsToHunt := by
  unfold Obligations.FailedVerificationReturnsToHunt
  intro s hup hv
  refine ⟨fun content check hc hp => ?_, fun i hi => ?_⟩
  · simp [exec, execCandidateCheckWord, happens_up hup, hv, hc, checkPasses, hp]
  · have he : exec i s = .next s.failVerify := by
      rcases hi with ⟨content, check, rfl, hc, hne⟩ | ⟨window, rfl, hc, hp, hne⟩
      · simp [exec, execCandidateCheckWord, happens_up hup, hv, hc, checkPasses, hne]
      · obtain ⟨p, hp⟩ := Option.ne_none_iff_exists'.1 hp
        simp [exec, execSecondSyncJudged, happens_up hup, hv, hc, hp, Config.syncWord, hne]
    refine ⟨_, he, ?_⟩
    obtain ⟨hlost, hkept⟩ := s.failVerify_eq
    cases hflag : s.link.lostFlag with
    | false =>
      rw [hlost hflag]
      exact ⟨rfl, rfl, rfl, rfl, rfl, fun _ => ⟨rfl, rfl, rfl, rfl⟩, fun h => absurd h (by decide), rfl⟩
    | true =>
      rw [hkept hflag]
      exact ⟨rfl, rfl, rfl, rfl, rfl, fun h => absurd h (by decide), fun _ => ⟨rfl, hflag, rfl⟩, rfl⟩

/-! ### The second sync word (R17, R24, R27, R28) -/

/-- The Link Receiver that a second sync word at `p` has locked (R17, R28). -/
def LinkReceiver.lockedAt (l : LinkReceiver) (p : BitTime) : LinkReceiver :=
  { l with
    state := .locked, missCount := 0, expectedPos := some p, candidatePos := none
    candidateChecked := false, verifiedHere := true, lostFlag := false }

/-- The notices then: SYNC_REGAINED is raised if the lost flag was set (R28). -/
def State.regained (s : State) : NoticeQueue :=
  if s.link.lostFlag then
    s.notices.raise s.cmd.params.noticeMask s.arb.item (.syncRegained s.link.E s.link.unlocked)
  else s.notices

theorem State.lockAt_eq (s : State) (p : BitTime) :
    s.lockAt p = { s with link := s.link.lockedAt p, notices := s.regained } := by
  unfold State.lockAt State.regained
  dsimp only
  split <;> rfl

/-- Where the relock rule does not forward the frame it drops it, and the node waits: no bit of the frame in progress
is touched, and the line is free when it was to be (R27). -/
theorem State.relock_drops {s : State} {p : BitTime} (h : ¬(s.frame = none ∧ s.tx.line.freeFrom ≤ p + 64)) :
    ∃ tx : Transmitter, tx.sent = s.tx.sent ∧ tx.line.freeFrom = s.tx.line.freeFrom ∧ s.relock p = { s with
      link := { s.link with relockWait := true, pendDropped := s.link.pendDropped + 1 }, tx := tx } := by
  by_cases hf : s.frame = none
  · exact ⟨{ s.tx with line := .relockFill s.tx.line.freeFrom }, rfl, rfl, State.relock_busy hf fun hle => h ⟨hf, hle⟩⟩
  · exact ⟨s.tx, rfl, rfl, by simp [State.relock, hf]⟩

/-- Settles O7: the node is LOCKED first, and the relock rule then forwards or drops the frame. -/
theorem secondSyncLocksAndRelocks : Obligations.SecondSyncLocksAndRelocks := by
  unfold Obligations.SecondSyncLocksAndRelocks
  intro s p hup hv hc hp
  have he : exec (.secondSyncJudged 0xF35C0A69#32) s = .next ((s.lockAt (p + 2464)).relock (p + 2464)) := by
    simp [exec, execSecondSyncJudged, happens_up hup, hv, hc, hp, Config.syncWord, Config.frameBits]
  rw [State.lockAt_eq] at he
  have hok : ∀ u : State, u.link.state = .locked → u.resetHeld = s.resetHeld → u.linkOk = true := by
    intro u hl hr
    simp [State.linkOk, hl, hr, hup]
  by_cases hfree : s.frame = none ∧ s.tx.line.freeFrom ≤ p + 2528
  · rw [State.relock_free (p := p + 2464)
      (s := { s with link := s.link.lockedAt (p + 2464), notices := s.regained }) hfree.1 hfree.2] at he
    exact ⟨_, he, rfl, hok _ rfl rfl, rfl, rfl, rfl, rfl, rfl, rfl, rfl,
      fun _ => ⟨frameBegun_beginFrame .., rfl, rfl⟩, fun h => absurd hfree h, rfl⟩
  · obtain ⟨tx, hsent, hline, hr⟩ := State.relock_drops (p := p + 2464)
      (s := { s with link := s.link.lockedAt (p + 2464), notices := s.regained }) hfree
    rw [hr] at he
    exact ⟨_, he, rfl, hok _ rfl rfl, rfl, rfl, rfl, rfl, rfl, rfl, rfl,
      fun h => absurd h hfree, fun _ => ⟨rfl, rfl, rfl, hsent, hline⟩, rfl⟩

/-! ### A sync word missed (R19 to R22, R25) -/

/-- Settles O9: a regenerated frame begins in either row, and the limit decides whether the node gives up. -/
theorem missedSyncIsRegenerated : Obligations.MissedSyncIsRegenerated := by
  unfold Obligations.MissedSyncIsRegenerated
  intro s p i n hup hf hd hi
  have he : exec i s = .next (s.missSync p n) := by
    rcases hi with ⟨rfl, hl, rfl⟩ | ⟨rfl, hl, rfl⟩
    · simp [exec, execSyncMissInLocked, happens_up hup, hd, hf, hl]
    · simp [exec, execSyncMissInFlywheel, happens_up hup, hd, hf, hl]
  refine ⟨_, he, ?_⟩
  have hbegun := frameBegun_beginFrame { s with link := s.link.missedAt p n } true (p + 64)
  by_cases hn : n < s.cmd.params.flywheelLimit
  · have hm : s.missSync p n = State.beginFrame { s with link := s.link.missedAt p n } true (p + 64) := if_pos hn
    rw [hm]
    exact ⟨hbegun, rfl, rfl, rfl, rfl, rfl, fun _ => ⟨rfl, rfl, rfl, rfl, rfl, rfl⟩, fun h => absurd hn (by omega), rfl⟩
  · have hm : s.missSync p n
        = State.giveUp (State.beginFrame { s with link := s.link.missedAt p n } true (p + 64)) := if_neg hn
    rw [hm]
    exact ⟨hbegun, rfl, rfl, rfl, rfl, rfl, fun h => absurd h hn, fun _ => ⟨rfl, rfl, rfl, rfl, rfl, rfl⟩, rfl⟩

end Sys2Proof.Machine
end

section
/-! SUPPORT. The outcome of a frame, and what stands in each block when a frame end is over. -/

namespace Sys2Proof.Machine

/-! ### The outcome (R29, R32) -/

section
variable {f : FrameInFlight} {check : Word}

theorem outcome_good_iff : f.outcome check = .good ↔ EndsGood f check := by
  unfold FrameInFlight.outcome EndsGood
  split
  · simp [*]
  · split <;> simp_all

theorem outcome_damaged_iff : f.outcome check = .damaged ↔ f.regenerated = false ∧ check ≠ crcValue f.rxCrc := by
  unfold FrameInFlight.outcome
  split
  · simp [*]
  · split <;> simp_all

theorem outcome_regenerated_iff : f.outcome check = .regenerated ↔ f.regenerated = true := by
  unfold FrameInFlight.outcome
  split
  · simp [*]
  · split <;> simp_all

/-- An item written is delivered unless the frame ends DAMAGED (R120). -/
theorem outcome_delivers_iff :
    (f.outcome check).delivers = true ↔ f.regenerated = true ∨ check = crcValue f.rxCrc := by
  unfold FrameInFlight.outcome
  split
  · simp [*, FrameOutcome.delivers]
  · split <;> simp_all [FrameOutcome.delivers]

theorem jumps_iff : f.jumps (f.outcome check) = true ↔ EndsGood f check ∧ headerNumber f.header ≠ f.number := by
  simp [FrameInFlight.jumps, outcome_good_iff]

end

/-! ### The works that meet, where there is nothing for them to do -/

section
variable {w : Closing}

theorem Closing.delivery_quiet (h : w.s.arb.item = .none) : w.delivery = w := by
  simp [Closing.delivery, State.settleItem, h]

theorem Closing.jumpRaise_quiet (h : w.frame.jumps w.outcome = false) : w.jumpRaise = w := by
  simp [Closing.jumpRaise, h]

theorem Closing.expiryRaise_quiet (h : w.expired = []) : w.expiryRaise = w := by
  simp [Closing.expiryRaise, h]

theorem Closing.copyCompletion_quiet (h : w.s.map.copy = none) : w.copyCompletion = w := by
  unfold Closing.copyCompletion
  split
  · next src hs => rw [h] at hs; cases hs
  · rfl

theorem Closing.command_quiet (h : NoCommand w.s) : w.command = w := by
  unfold Closing.command
  split
  · next r hr =>
    obtain ⟨hf, -, hc⟩ := takenRequest_eq_some.1 hr
    exact absurd (h r hf) hc
  · rfl

end

/-- The channels that expire at a frame end are LIVE (R85). -/
theorem begin_expired_nil (f : FrameInFlight) (e : FrameClose) {s : State}
    (h : ∀ (c : Channel) (v : Sample) (age : Nat), s.outputs[c] ≠ .live v age) :
    (Closing.begin f e s).expired = [] := by
  have hx : ∀ taps, expiringChannels s taps = [] := by
    intro taps
    unfold expiringChannels
    rw [List.filter_eq_nil_iff]
    intro c _
    unfold OutputChannel.expires
    split
    · next v age _ ho => exact absurd ho (h c v age)
    · simp
  unfold Closing.begin Closing.schedule
  split <;> exact hx _

/-- With no order named the works are taken in the standard order (assumption 4). -/
theorem endItems_standard {e : FrameClose} (h : e.order = []) : endItems e = standardOrder := by
  unfold endItems
  rw [h]
  decide

/-! ### What stands when the frame end is over -/

/-- The execution of a command leaves the command's marks alone: of the Command Unit it can change the address, the
parameters and the response record (R102, R106, R113). -/
theorem Taking.cmd_run (t : Taking) (k : Capture) (s : State) :
    ∃ a p x, (t.run k s).cmd = { s.cmd with address := a, params := p, response := x } := by
  obtain ⟨u, x, h, hu⟩ := t.run_eq k s
  have hcmd : ∃ a p, u.cmd = { s.cmd with address := a, params := p } := by
    rcases hu with rfl | ⟨r, n, -, hr⟩
    · exact ⟨u.cmd.address, u.cmd.params, rfl⟩
    · cases hr with
      | address a => exact ⟨a, s.cmd.params, rfl⟩
      | parameter p _ _ => exact ⟨s.cmd.address, p, rfl⟩
      | reset => exact ⟨s.cmd.address, _, rfl⟩
      | reads _ _ | map _ _ _ | counters _ _ _ | snaps _ _ _ => exact ⟨s.cmd.address, s.cmd.params, rfl⟩
  obtain ⟨a, p, hc⟩ := hcmd
  exact ⟨a, p, x, by rw [h, hc]⟩

/-- The Slot Engine has no use for a command but NODE RESET, which empties it (R38). -/
theorem Taking.slots_run (t : Taking) (k : Capture) {s : State} (h : s.slots = SlotEngine.empty) :
    (t.run k s).slots = SlotEngine.empty := by
  obtain ⟨u, x, hu, hr⟩ := t.run_eq k s
  rw [hu]
  rcases hr with rfl | ⟨r, n, -, hr⟩
  · exact h
  · cases hr with
    | reset => rfl
    | reads _ _ | address _ | parameter _ _ _ | map _ _ _ | counters _ _ _ | snaps _ _ _ => exact h

/-- The state of a frame end whose works are done and counted; the command executed has still to act. -/
def countedState (f : FrameInFlight) (e : FrameClose) (s : State) : State :=
  (Closing.settled f e s).beforeCapture.count.s

theorem closeFrame_eq_run (f : FrameInFlight) (e : FrameClose) (s : State) : (closeFrame f e s).s =
    (Closing.settled f e s).taking.run (Closing.settled f e s).capture (countedState f e s) := rfl

/-- It is the frame end with its works done, delivered and counted: a new HOLD_LIMIT may have acted before the capture,
and the command in flight is gone with its events, as are the item written and its events. -/
theorem countedState_eq (f : FrameInFlight) (e : FrameClose) (s : State) : ∃ l,
    (countedState f e s).cmd = { (Closing.worked f e s).s.cmd with
        inFlight := none, amounts := CommandAmounts.zero
        params := { (Closing.worked f e s).s.cmd.params with holdLimit := l } }
      ∧ (countedState f e s).arb = { (Closing.worked f e s).s.arb with
          item := .none, written := false, denied := false, sentResponse := false }
      ∧ (countedState f e s).map = (Closing.worked f e s).s.map
      ∧ (countedState f e s).slots = SlotEngine.empty := by
  obtain ⟨-, -, -, hslots, hmap, -, -, hcmd, harb, -⟩ := Closing.count_state (Closing.settled f e s).beforeCapture
  obtain ⟨-, -, -, hempty, -⟩ := Closing.begin_state f e s
  obtain ⟨l, o, n, hb⟩ := (Closing.settled f e s).beforeCapture_eq
  have hworked : (Closing.worked f e s).s.slots = SlotEngine.empty := (Closing.worked_same f e s).slots.trans hempty
  rw [hb] at hslots hmap hcmd harb
  unfold countedState
  rw [hb]
  exact ⟨l, hcmd, harb, hmap, hslots.trans hworked⟩

/-- No frame end leaves a command in flight, or a tap staged (R51, R96). -/
theorem closeFrame_cleared (f : FrameInFlight) (e : FrameClose) (s : State) :
    (closeFrame f e s).s.cmd.inFlight = none ∧ (closeFrame f e s).s.slots = SlotEngine.empty := by
  obtain ⟨l, hcmd, -, -, hslots⟩ := countedState_eq f e s
  rw [closeFrame_eq_run]
  obtain ⟨a, p, x, hc⟩ := Taking.cmd_run (Closing.settled f e s).taking (Closing.settled f e s).capture
    (countedState f e s)
  exact ⟨by rw [hc, hcmd], Taking.slots_run _ _ hslots⟩

end Sys2Proof.Machine
end

section
/-! PROOFS. The end of a frame and the number of the next (O18). -/

namespace Sys2Proof.Machine

/-- A calm frame end without a command, where no channel is LIVE, in the standard order: the works that meet are the
resend step and the raising of NUMBER_JUMP. -/
theorem worked_calm {s : State} {f : FrameInFlight} {e : FrameClose} (hc : Calm s) (hn : NoCommand s)
    (ho : ∀ (c : Channel) (v : Sample) (age : Nat), s.outputs[c] ≠ .live v age) (he : e.order = []) :
    Closing.worked f e s = (Closing.begin f e s).resend.jumpRaise := by
  have hsame := ((Closing.begin f e s).resend_same).trans (Closing.jumpRaise_same _)
  have hd : (Closing.begin f e s).resend.delivery = (Closing.begin f e s).resend :=
    Closing.delivery_quiet ((Closing.begin_item f e s).trans hc.item)
  have hx : (Closing.begin f e s).resend.jumpRaise.expired = [] := by
    obtain ⟨-, -, hx, -⟩ := hsame.closing
    rw [hx, begin_expired_nil f e ho]
  have hcopy : (Closing.begin f e s).resend.jumpRaise.s.map = s.map := by
    unfold Closing.jumpRaise
    split <;> exact Closing.begin_map f e s
  have hheld : NoCommand (Closing.begin f e s).resend.jumpRaise.s := by
    unfold NoCommand
    rw [hsame.held, Closing.begin_cmd]
    exact hn
  rw [Closing.worked, endItems_standard he]
  show (Closing.command (Closing.copyCompletion (Closing.expiryRaise (Closing.jumpRaise
    (Closing.delivery (Closing.resend _)))))) = _
  rw [hd, Closing.expiryRaise_quiet hx, Closing.copyCompletion_quiet (by rw [hcopy]; exact hc.copy),
    Closing.command_quiet hheld]

theorem Closing.jumpRaise_notices (w : Closing) : w.jumpRaise.s.notices =
    if w.frame.jumps w.outcome then w.s.notices.raise w.s.cmd.params.noticeMask w.s.arb.item
      (.numberJump w.frame.number (headerNumber w.frame.header))
    else w.s.notices := by
  unfold Closing.jumpRaise
  split <;> rfl

/-- The notices after the resend step and the raising of NUMBER_JUMP alone (R32, R127). -/
theorem begin_jump_notices (f : FrameInFlight) (e : FrameClose) (s : State) :
    (Closing.begin f e s).resend.jumpRaise.s.notices =
      let resent := { s.notices with records := Resent s.notices.records }
      if f.jumps (f.outcome e.check) then resent.raise s.cmd.params.noticeMask s.arb.item
        (.numberJump f.number (headerNumber f.header))
      else resent := by
  have hresend : (Closing.begin f e s).resend.s.notices = { s.notices with records := Resent s.notices.records } := by
    rw [← Closing.begin_notices f e s]
    rfl
  have hcmd : (Closing.begin f e s).resend.s.cmd = s.cmd := Closing.begin_cmd f e s
  have hitem : (Closing.begin f e s).resend.s.arb.item = s.arb.item := Closing.begin_item f e s
  have hframe : (Closing.begin f e s).resend.frame = f := Closing.begin_frame f e s
  have hout : (Closing.begin f e s).resend.outcome = f.outcome e.check := Closing.begin_outcome f e s
  rw [Closing.jumpRaise_notices, hresend, hcmd, hitem, hframe, hout]

/-- A calm frame end whose works come to `w`, with nothing accepted, leaves the notices of `w`, the drops delivered. -/
theorem closeFrame_calm_notices {s : State} {f : FrameInFlight} {e : FrameClose} {w : Closing} (hc : Calm s)
    (hw : Closing.worked f e s = w) (ht : w.taking.Idle) :
    (closeFrame f e s).s.notices = { w.s.notices with pendingDrops := 0 } := by
  have hsame : (Closing.begin f e s).SameElsewhere w := hw ▸ Closing.worked_same ..
  have hclose : (closeFrame f e s).s = w.deliver.taking.run w.deliver.capture w.deliver.count.s :=
    closeFrame_idle (by rw [settled_eq_deliver, hw]) ht
  obtain ⟨x, hx⟩ := Taking.run_idle ht w.deliver.capture w.deliver.count.s
  obtain ⟨-, -, hq⟩ := Closing.counted_quiet (quiet_of_calm hc hsame) (m := w.marks) ht rfl
  exact (congrArg State.notices (hclose.trans hx)).trans hq

/-- Settles O18: the Link Receiver, the frame and the command are settled at every end, and the notices at a calm
one. -/
theorem frameEndNumbersTheNext : Obligations.FrameEndNumbersTheNext := by
  unfold Obligations.FrameEndNumbersTheNext
  intro s f e hend
  obtain ⟨hr, -, hframe, hlink, -⟩ := closeFrame_host f e s
  obtain ⟨hheld, hslots⟩ := closeFrame_cleared f e s
  refine ⟨_, exec_frameEnd_eq e hend, ?_⟩
  rw [hlink, hframe, hslots, hheld, hr]
  have hjump : f.jumps (f.outcome e.check) = true ↔ EndsGood f e.check ∧ headerNumber f.header ≠ f.number := jumps_iff
  refine ⟨fun hg hne => ?_, fun hn => ?_, fun hl => ?_, fun hl => ?_, rfl, rfl, rfl, rfl, hend.up,
    fun hc hn ho he => ?_⟩
  · simp [LinkReceiver.frameEnd, FrameInFlight.nextE, hjump.2 ⟨hg, hne⟩]
  · simp [LinkReceiver.frameEnd, FrameInFlight.nextE, mt hjump.1 hn]
  · simp [LinkReceiver.frameEnd, hl, Config.unlockedMax]
  · simp [LinkReceiver.frameEnd, hl]
  · have htaking : (Closing.begin f e s).resend.jumpRaise.taking = .nothing := by
      unfold Closing.jumpRaise
      split <;> exact Closing.begin_taking f e s
    rw [closeFrame_calm_notices hc (worked_calm hc hn ho he) (htaking ▸ Taking.idle_nothing), begin_jump_notices,
      hc.item]
    exact ⟨fun h => by rw [if_pos (hjump.2 h)], fun h => by rw [if_neg (mt hjump.1 h)]⟩

end Sys2Proof.Machine
end

section
/-! SUPPORT. The response record, the item written and the running copy through the works of a frame end, in whatever
order (R65, R97, R101, R120), and what the command therefore meets. -/

namespace Sys2Proof.Machine

/-! ### The order of the works -/

/-- The works taken before the command are those that stand before it in the order of the frame end. -/
theorem precedes_command_iff (e : FrameClose) (i : EndItem) :
    Precedes e i .command ↔ i ∈ (endItems e).takeWhile (· != .command) := by
  obtain ⟨after, he, hb, -⟩ := endItems_split e
  unfold Precedes
  generalize (endItems e).takeWhile (· != .command) = before at he hb
  rw [he, List.idxOf_append_of_notMem hb, List.idxOf_cons_self, Nat.add_zero]
  by_cases hi : i ∈ before
  · simp only [hi, iff_true, List.idxOf_append_of_mem hi]
    exact List.idxOf_lt_length_iff.2 hi
  · simp [hi, List.idxOf_append_of_notMem hi]

/-- A work taken after the command does not stand before it. -/
theorem not_precedes_of_command {e : FrameClose} {i : EndItem} (h : Precedes e .command i) :
    i ∉ (endItems e).takeWhile (· != .command) := fun hi =>
  absurd ((precedes_command_iff e i).2 hi) (Nat.lt_asymm h)

/-! ### One work -/

/-- The resend step and the raisings leave the record, the item and the copy alone. -/
theorem Closing.item_bystander (w : Closing) {i : EndItem} (hd : i ≠ .delivery) (hc : i ≠ .copyCompletion)
    (hn : i ≠ .command) :
    (w.item i).s.cmd = w.s.cmd ∧ (w.item i).s.arb = w.s.arb ∧ (w.item i).s.map = w.s.map := by
  cases i with
  | resend => exact ⟨rfl, rfl, rfl⟩
  | delivery => exact absurd rfl hd
  | jumpRaise =>
    show w.jumpRaise.s.cmd = _ ∧ w.jumpRaise.s.arb = _ ∧ w.jumpRaise.s.map = _
    unfold Closing.jumpRaise
    split <;> exact ⟨rfl, rfl, rfl⟩
  | expiryRaise =>
    show w.expiryRaise.s.cmd = _ ∧ w.expiryRaise.s.arb = _ ∧ w.expiryRaise.s.map = _
    unfold Closing.expiryRaise
    split <;> exact ⟨rfl, rfl, rfl⟩
  | copyCompletion => exact absurd rfl hc
  | command => exact absurd rfl hn

/-- Where the response was not written, the delivery reaches no response (R120). -/
theorem Closing.delivery_unwritten {w : Closing} (h : w.s.arb.item ≠ .response) :
    w.delivery.s.cmd = w.s.cmd ∧ w.delivery.s.arb = { w.s.arb with item := .none } ∧ w.delivery.s.map = w.s.map := by
  unfold Closing.delivery State.settleItem
  dsimp only
  split
  · next hi => exact ⟨rfl, by rw [← hi], rfl⟩
  · exact ⟨rfl, rfl, rfl⟩
  · next hi => exact absurd hi h

/-- The UNSENT response that was written is SENT when it is delivered, and stands otherwise (R120). -/
theorem Closing.delivery_written {w : Closing} {a : Answer} (h : w.s.arb.item = .response)
    (hr : w.s.cmd.response = .unsent a) :
    w.delivery.s.cmd = { w.s.cmd with response := if w.outcome.delivers then .sent a else .unsent a }
      ∧ w.delivery.s.arb = { w.s.arb with
          item := .none, sentResponse := w.s.arb.sentResponse || w.outcome.delivers }
      ∧ w.delivery.s.map = w.s.map := by
  unfold Closing.delivery State.settleItem
  rw [h, hr]
  dsimp only
  cases w.outcome.delivers
  · exact ⟨by rw [← hr]; rfl, by simp, rfl⟩
  · exact ⟨rfl, by simp, rfl⟩

/-- The response record once a running copy has completed (R65). -/
def State.copiedRecord (s : State) : ResponseRecord :=
  match s.map.copy with
  | some src => s.cmd.response.copyDone src
  | none => s.cmd.response

theorem Closing.copyCompletion_eq (w : Closing) :
    w.copyCompletion.s.cmd = { w.s.cmd with response := w.s.copiedRecord } ∧ w.copyCompletion.s.arb = w.s.arb
      ∧ w.copyCompletion.s.map = { w.s.map with copy := none } := by
  unfold Closing.copyCompletion State.copiedRecord
  cases h : w.s.map.copy with
  | some src => exact ⟨rfl, rfl, rfl⟩
  | none =>
    have hm : w.s.map = { w.s.map with copy := none } := by rw [← h]
    exact ⟨rfl, rfl, hm⟩

theorem State.copiedRecord_idle {s : State} (h : s.map.copy = none) : s.copiedRecord = s.cmd.response := by
  unfold State.copiedRecord
  rw [h]

/-- A copy answers a PENDING record alone (R65). -/
theorem State.copiedRecord_unsent {s : State} {a : Answer} (h : s.cmd.response = .unsent a) :
    s.copiedRecord = .unsent a := by
  unfold State.copiedRecord
  split <;> simp [h, ResponseRecord.copyDone]

/-! ### The works before or after the command -/

/-- Where the response was not written, the works without the command make the record what the copy makes it, if it
completes among them. -/
theorem Closing.meet_unwritten {w : Closing} {items : List EndItem} (hi : EndItem.command ∉ items)
    (h : w.s.arb.item ≠ .response) :
    (w.meet items).s.cmd.response = (if EndItem.copyCompletion ∈ items then w.s.copiedRecord else w.s.cmd.response)
      ∧ (w.meet items).s.map.copy = (if EndItem.copyCompletion ∈ items then none else w.s.map.copy)
      ∧ (w.meet items).s.arb.item ≠ .response := by
  unfold Closing.meet
  induction items generalizing w with
  | nil => exact ⟨rfl, rfl, h⟩
  | cons i rest ih =>
    obtain ⟨hne, hrest⟩ := List.ne_and_not_mem_of_not_mem_cons hi
    rw [List.foldl_cons]
    by_cases hc : i = .copyCompletion
    · subst hc
      obtain ⟨hcmd, harb, hmap⟩ := w.copyCompletion_eq
      have hidle : w.copyCompletion.s.copiedRecord = w.s.copiedRecord := by
        rw [State.copiedRecord_idle (by rw [hmap]), hcmd]
      obtain ⟨h1, h2, h3⟩ := ih (w := w.copyCompletion) hrest (by rw [harb]; exact h)
      refine ⟨h1.trans ?_, h2.trans ?_, h3⟩
      · simp [hidle, hcmd]
      · simp [hmap]
    · have hstand : (w.item i).s.cmd = w.s.cmd ∧ (w.item i).s.arb.item ≠ .response ∧ (w.item i).s.map = w.s.map := by
        by_cases hd : i = .delivery
        · subst hd
          obtain ⟨hcmd, harb, hmap⟩ := Closing.delivery_unwritten h
          exact ⟨hcmd, by show w.delivery.s.arb.item ≠ _; rw [harb]; simp, hmap⟩
        · obtain ⟨hcmd, harb, hmap⟩ := w.item_bystander hd hc hne.symm
          exact ⟨hcmd, by rw [harb]; exact h, hmap⟩
      obtain ⟨hcmd, hitem, hmap⟩ := hstand
      obtain ⟨h1, h2, h3⟩ := ih (w := w.item i) hrest hitem
      have hmem : EndItem.copyCompletion ∈ i :: rest ↔ EndItem.copyCompletion ∈ rest := by simp [Ne.symm hc]
      refine ⟨h1.trans ?_, h2.trans ?_, h3⟩
      · simp only [hmem, State.copiedRecord, hcmd, hmap]
      · simp only [hmem, hmap]

/-- An UNSENT response that was written is SENT after the works without the command, if it is delivered among them. -/
theorem Closing.meet_written {w : Closing} {items : List EndItem} {a : Answer} (hi : EndItem.command ∉ items)
    (h : w.s.arb.item = .response) (hr : w.s.cmd.response = .unsent a) :
    (w.meet items).s.cmd.response
      = if EndItem.delivery ∈ items ∧ w.outcome.delivers = true then .sent a else .unsent a := by
  unfold Closing.meet
  induction items generalizing w with
  | nil => simpa using hr
  | cons i rest ih =>
    obtain ⟨hne, hrest⟩ := List.ne_and_not_mem_of_not_mem_cons hi
    rw [List.foldl_cons]
    by_cases hd : i = .delivery
    · subst hd
      obtain ⟨hcmd, harb, -⟩ := Closing.delivery_written h hr
      by_cases ho : w.outcome.delivers = true
      · have hs : w.delivery.s.cmd.response = .sent a := by rw [hcmd]; simp [ho]
        exact (Closing.meet_response hrest (w := w.delivery) (.inr ⟨a, hs⟩)).trans (by simp [hs, ho])
      · have hs : w.delivery.s.cmd.response = .unsent a := by rw [hcmd]; simp [ho]
        obtain ⟨h1, -⟩ := Closing.meet_unwritten hrest (w := w.delivery) (by rw [harb]; simp)
        exact h1.trans (by simp [State.copiedRecord_unsent hs, hs, ho])
    · have hstand : (w.item i).s.cmd.response = .unsent a ∧ (w.item i).s.arb.item = .response := by
        by_cases hc : i = .copyCompletion
        · subst hc
          obtain ⟨hcmd, harb, -⟩ := w.copyCompletion_eq
          exact ⟨(congrArg CommandUnit.response hcmd).trans (State.copiedRecord_unsent hr),
            (congrArg Arbiter.item harb).trans h⟩
        · obtain ⟨hcmd, harb, -⟩ := w.item_bystander hd hc hne.symm
          exact ⟨by rw [hcmd, hr], by rw [harb, h]⟩
      obtain ⟨hresp, hitem⟩ := hstand
      have hout : (w.item i).outcome = w.outcome := (w.item_same i).closing.2.1
      have hmem : EndItem.delivery ∈ i :: rest ↔ EndItem.delivery ∈ rest := by simp [Ne.symm hd]
      rw [ih hrest hitem hresp, hout]
      simp only [hmem]

end Sys2Proof.Machine
end

section
/-! SUPPORT. A command that is accepted, and the row that it is (R96 to R98, R102). -/

namespace Sys2Proof.Machine

/-! ### A command that is accepted -/

/-- The frame end whose command is accepted: what the command meets is met. -/
def Closing.acceptedAs (w : Closing) (r : Request) (n : CommandName) : Closing :=
  { w with taking := .accepted r n, s := (meetCommand n r w.snapshotFirst w.s).countCommand true false false false }

theorem Closing.execute_accepted {w : Closing} {r : Request} {n : CommandName} (hn : r.name = some n)
    (hc : checkCommand n r w.s = none) : w.execute r = w.acceptedAs r n := by
  have hv : verdict r w.s = .accepted r n := by simp [verdict, hn, hc]
  unfold Closing.execute
  rw [hv]
  rfl

/-- The frame end with another broadcast sequence (R98). -/
def Closing.sequenced (w : Closing) (q : Option SequenceNumber) : Closing :=
  { w with s := { w.s with cmd := { w.s.cmd with broadcastSeq := q } } }

/-- The broadcast sequence that the acceptance of `r` leaves: its own for a broadcast (R98). -/
def State.sequenceAfter (s : State) (r : Request) : Option SequenceNumber :=
  if r.cls = .broadcast then some r.seq else s.cmd.broadcastSeq

section
variable {s : State} {f : FrameInFlight} {e : FrameClose} {r : Request} {n : CommandName}

/-- A command executed that passes its checks is accepted as the frame end meets it: a unicast new to the record, or a
broadcast under a new sequence, which enters it (R97, R98, R102). -/
theorem Carries.command_eq (h : Carries s f e r n) (hn : r.cls = .broadcast → BroadcastName (some n))
    (hc : checkCommand n r (metByCommand s f e) = none) : (Closing.beforeCommand f e s).command
      = ((Closing.beforeCommand f e s).sequenced (s.sequenceAfter r)).acceptedAs r n := by
  have hseq : (Closing.beforeCommand f e s).s.cmd.broadcastSeq = s.cmd.broadcastSeq :=
    congrArg CommandMarks.broadcastSeq (Closing.beforeCommand_marks f e s)
  rcases h with h | h
  · have hset : s.cmd.response.Settled := h.unseen.imp_right fun ⟨a, ha, _⟩ => ⟨a, ha⟩
    have hreceive : (Closing.beforeCommand f e s).s.cmd.response.receive r.seq = .execute := by
      rw [Closing.beforeCommand_response hset]
      rcases h.unseen with hr | ⟨a, hr, hne⟩
      · rw [hr]; rfl
      · rw [hr]; simp [ResponseRecord.receive, hne.symm]
    have hafter : s.sequenceAfter r = (Closing.beforeCommand f e s).s.cmd.broadcastSeq := by
      rw [hseq]
      exact if_neg (by simp [h.unicast])
    have htaken := takenRequest_eq h.toAtGoodEnd h.held (by simp [h.unicast])
    rw [(Closing.command_taken htaken).1 h.unicast, Closing.takeUnicast, hreceive, hafter]
    exact Closing.execute_accepted h.name hc
  · have hnew : ((Closing.beforeCommand f e s).s.cmd.broadcastSeq == some r.seq) = false := by
      rw [hseq]
      simpa using h.unseen
    have hafter : s.sequenceAfter r = some r.seq := if_pos h.broadcast
    have htaken := takenRequest_eq h.toAtGoodEnd h.held (by simp [h.broadcast])
    rw [(Closing.command_taken htaken).2 h.broadcast, Closing.takeBroadcast, hnew, h.name, hafter]
    simp only [Bool.false_eq_true, if_false, acceptsBroadcast_iff.2 (hn h.broadcast), if_true]
    exact Closing.execute_accepted h.name ((checkCommand_broadcastSeq n r _ _).trans hc)

/-- The row of a command is the frame end that takes it (R96). -/
theorem Carries.toAtGoodEnd (h : Carries s f e r n) : AtGoodEnd s f e := by
  rcases h with h | h
  · exact h.toAtGoodEnd
  · exact h.toAtGoodEnd

theorem Carries.held (h : Carries s f e r n) : s.cmd.inFlight = some r ∧ r.name = some n ∧ r.cls ≠ .none := by
  rcases h with h | h
  · exact ⟨h.held, h.name, by simp [h.unicast]⟩
  · exact ⟨h.held, h.name, by simp [h.broadcast]⟩

theorem closeFrame_outcome (f : FrameInFlight) (e : FrameClose) (s : State) :
    (closeFrame f e s).outcome = f.outcome e.check := by
  obtain ⟨-, ho, -⟩ := ((Closing.begin f e s).meet_same (endItems e)).closing
  obtain ⟨l, o, n, hb⟩ := (Closing.settled f e s).beforeCapture_eq
  show (Closing.settled f e s).beforeCapture.outcome = _
  rw [hb]
  exact ho.trans (Closing.begin_outcome f e s)

theorem Carries.commandAt_eq (h : Carries s f e r n) {q : Request → Bool} (hq : q r = true) :
    commandAt n q e s = (closeFrame f e s).s := by
  obtain ⟨hheld, hname, hcls⟩ := h.held
  have hend := h.toAtGoodEnd
  have hgood : f.outcome e.check = .good := outcome_good_iff.2 ⟨hend.forwarded, hend.passes⟩
  have htakes : takesCommand n q s (closeFrame f e s) = true := by
    unfold takesCommand
    rw [closeFrame_outcome, takenRequest_eq_some.2 ⟨hheld, hgood, hcls⟩]
    simp [hname, hq]
  rw [commandAt, atFrameEnd_eq hend.flight hend.last, if_pos htakes]

end

/-! ### The address and the broadcast sequence -/

theorem Closing.execute_broadcastSeq (w : Closing) (r : Request) :
    (w.execute r).s.cmd.broadcastSeq = w.s.cmd.broadcastSeq := by
  rcases w.execute_cases r with ⟨n, -, -, h⟩ | ⟨t, -, h⟩ <;> rw [h]
  · obtain ⟨p, x, k, c, hm⟩ := meetCommand_eq n r w.snapshotFirst w.s
    rw [hm]
    rfl
  · rfl

theorem Closing.takeUnicast_broadcastSeq (w : Closing) (r : Request) :
    (w.takeUnicast r).s.cmd.broadcastSeq = w.s.cmd.broadcastSeq := by
  unfold Closing.takeUnicast
  split
  · rfl
  · rfl
  · rfl
  · exact w.execute_broadcastSeq r

/-- The works after the command leave the broadcast sequence alone, and so does the command's execution. -/
theorem closeFrame_broadcastSeq (f : FrameInFlight) (e : FrameClose) (s : State) :
    (closeFrame f e s).s.cmd.broadcastSeq = (Closing.beforeCommand f e s).command.s.cmd.broadcastSeq := by
  obtain ⟨a, p, x, hrun⟩ := Taking.cmd_run (Closing.settled f e s).taking (Closing.settled f e s).capture
    (countedState f e s)
  obtain ⟨l, hcmd, -⟩ := countedState_eq f e s
  rw [closeFrame_eq_run, hrun, hcmd]
  exact congrArg CommandMarks.broadcastSeq (worked_marks f e s)

/-- ASSIGN ADDRESS alone changes the address (R106). -/
theorem closeFrame_address {s : State} (h : ∀ r, s.cmd.inFlight = some r → r.name ≠ some .assignAddress)
    (f : FrameInFlight) (e : FrameClose) : (closeFrame f e s).s.cmd.address = s.cmd.address := by
  have hcount : (countedState f e s).cmd.address = s.cmd.address := by
    obtain ⟨l, hcmd, -⟩ := countedState_eq f e s
    rw [hcmd]
    exact (Closing.worked_same f e s).address.trans (by rw [Closing.begin_cmd])
  obtain ⟨u, x, hrun, hu⟩ := Taking.run_eq (Closing.settled f e s).taking (Closing.settled f e s).capture
    (countedState f e s)
  rw [closeFrame_eq_run, hrun]
  rcases hu with rfl | ⟨r, n, ht, hr⟩
  · exact hcount
  · obtain ⟨hheld, -, -, hname, -⟩ := accepts_of_settled ht
    cases hr with
    | address a => exact absurd hname (h r hheld)
    | reads _ _ | parameter _ _ _ | map _ _ _ | counters _ _ _ | snaps _ _ _ | reset => exact hcount

end Sys2Proof.Machine
end

section
/-! PROOFS. NODE RESET (O39): what it resets, what it keeps, and the running copy it meets. -/

namespace Sys2Proof.Machine

/-! ### The reset itself (R109, R122) -/

/-- A raising into an empty queue under the default mask appends (R124). -/
theorem raise_into_empty (q : NoticeQueue) (item : RegionItem) (n : Notice) :
    NoticeQueue.raise { q with records := [], dropped := 0 } 255#8 item n =
      { records := [{ notice := n, seq := q.seqCounter, repeats := 0, state := .queued false }]
        seqCounter := q.seqCounter + 1, dropped := 0, pendingDrops := q.pendingDrops } := by
  have hmask : (255#8).getLsbD (noticeIndex n.kind).val = true := by
    have hall : ∀ i : Fin 8, (255#8).getLsbD i.val = true := by decide
    exact hall _
  simp [NoticeQueue.raise, hmask, Config.noticePlaces]

/-- The reset values that a NODE RESET leaves, in a state whose command, item and events are gone already. -/
theorem configurationReset_doNodeReset (r : Request) {c : State} (hheld : c.cmd.inFlight = none)
    (hamounts : c.cmd.amounts = CommandAmounts.zero) (hitem : c.arb.item = .none) (hwritten : c.arb.written = false)
    (hdenied : c.arb.denied = false) (hsent : c.arb.sentResponse = false) (x : ResponseRecord) :
    ConfigurationReset { (doNodeReset r c).1 with cmd := { (doNodeReset r c).1.cmd with response := x } } := by
  have hcold := (atReset_cold (.held 0) true NoticeQueue.reset []).toConfigurationReset
  exact ⟨⟨rfl, rfl⟩, hcold.slots, hcold.inputs, hcold.outputs, hcold.params, ⟨hheld, hamounts⟩,
    ⟨rfl, hitem, hwritten, hdenied, hsent⟩, hcold.counters, hcold.snaps⟩

/-! ### The frame end that takes it -/

theorem exec_nodeReset_eq {s : State} {f : FrameInFlight} {e : FrameClose} {r : Request}
    (h : Carries s f e r .nodeReset) : exec (.nodeReset e) s = .next (closeFrame f e s).s := by
  show happens s _ = _
  rw [happens_up h.toAtGoodEnd.up, h.commandAt_eq rfl]

section
variable {s : State} {f : FrameInFlight} {e : FrameClose} {r : Request}

theorem nodeReset_accepted (h : Carries s f e r .nodeReset) (h0 : r.count = 0) :
    (Closing.beforeCommand f e s).command
      = ((Closing.beforeCommand f e s).sequenced (s.sequenceAfter r)).acceptedAs r .nodeReset :=
  h.command_eq (fun _ => by simp [BroadcastName]) (by simp [checkCommand, checkNodeReset, require, h0])

theorem nodeReset_taking (h : Carries s f e r .nodeReset) (h0 : r.count = 0) :
    (Closing.settled f e s).taking = .accepted r .nodeReset := by
  rw [settled_taking, nodeReset_accepted h h0]
  rfl

/-- A NODE RESET without parameters acts on the node as the frame end has counted it (R109). -/
theorem closeFrame_nodeReset (h : Carries s f e r .nodeReset) (h0 : r.count = 0) : (closeFrame f e s).s =
    (doNodeReset r (countedState f e s)).1.answer r
      (.unsent { seq := r.seq, tag := r.tag, status := .ok, data := [] }) := by
  rw [closeFrame_eq_run, nodeReset_taking h h0]
  rfl

/-- Where a NODE RESET meets the other works, a running copy alone is abandoned (R66, R110). -/
theorem acceptedAs_nodeReset (w : Closing) (r : Request) :
    (w.acceptedAs r .nodeReset).s.cmd.response
        = (if w.s.map.copy.isSome then w.s.abandonCopy.cmd.response else w.s.cmd.response)
      ∧ (w.acceptedAs r .nodeReset).s.map.copy = none
      ∧ (w.acceptedAs r .nodeReset).s.arb = w.s.arb ∧ (w.acceptedAs r .nodeReset).s.notices = w.s.notices := by
  unfold Closing.acceptedAs meetCommand
  dsimp only
  split
  · exact ⟨rfl, rfl, rfl, rfl⟩
  · next h => exact ⟨rfl, by simpa using h, rfl, rfl⟩

/-- The banks stand through the works of a frame end (R35). -/
theorem countedState_banks (f : FrameInFlight) (e : FrameClose) (s : State) :
    (countedState f e s).map.nodeReset = { s.map with commit := none, copy := none, resetDue := true } := by
  obtain ⟨l, -, -, hmap, -⟩ := countedState_eq f e s
  obtain ⟨ha, hb, hact, -⟩ := (Closing.worked_same f e s).banks
  rw [Closing.begin_map] at ha hb hact
  rw [hmap, MapStore.nodeReset, ha, hb, hact]

/-! ### The response record that a broadcast NODE RESET leaves (R66, R110) -/

/-- The frame end of a broadcast NODE RESET as its command has left it: a copy that the command met is abandoned, none
runs, and the works that follow alone can reach the record after it. -/
theorem broadcastReset_response (h : Carries s f e r .nodeReset) (h0 : r.count = 0) (hb : r.cls = .broadcast) :
    ∃ (v : Closing) (after : List EndItem), EndItem.command ∉ after
      ∧ (closeFrame f e s).s.cmd.response = (v.meet after).s.cmd.response
      ∧ v.s.cmd.response = (if (metByCommand s f e).map.copy.isSome then (metByCommand s f e).abandonCopy.cmd.response
          else (metByCommand s f e).cmd.response)
      ∧ v.s.map.copy = none ∧ v.s.arb.item = (metByCommand s f e).arb.item := by
  obtain ⟨after, ha, hw⟩ := worked_split f e s
  obtain ⟨l, hcmd, -⟩ := countedState_eq f e s
  obtain ⟨hresp, hcopy, harb, -⟩ :=
    acceptedAs_nodeReset ((Closing.beforeCommand f e s).sequenced (s.sequenceAfter r)) r
  refine ⟨_, after, ha, ?_, hresp, hcopy, congrArg Arbiter.item harb⟩
  rw [closeFrame_nodeReset h h0, ← nodeReset_accepted h h0, ← hw, State.answer, hb]
  exact (congrArg CommandUnit.response hcmd : (countedState f e s).cmd.response = _)

/-- A running copy that the reset meets is abandoned; one that has completed is answered (R66, R110). -/
theorem broadcastReset_pending (h : Carries s f e r .nodeReset) (h0 : r.count = 0) (hb : r.cls = .broadcast)
    {sq : SequenceNumber} {t : Tag} {src : Bank} (hr : s.cmd.response = .pending sq t) (hc : s.map.copy = some src)
    (hi : s.arb.item ≠ .response) :
    (closeFrame f e s).s.cmd.response =
      if EndItem.copyCompletion ∈ (endItems e).takeWhile (· != .command) then
        .unsent { seq := sq, tag := t, status := .ok, data := [if src = .b then 1 else 0] }
      else .unsent { seq := sq, tag := t, status := .aborted, data := [] } := by
  obtain ⟨v, after, ha, hu, hv, hidle, hitem⟩ := broadcastReset_response h h0 hb
  obtain ⟨-, -, hbefore, -⟩ := endItems_split e
  obtain ⟨hbr, hbc, hbi⟩ := Closing.meet_unwritten (w := Closing.begin f e s) hbefore (by simpa using hi)
  obtain ⟨har, -, -⟩ := Closing.meet_unwritten (w := v) ha (by rw [hitem]; exact hbi)
  have hstands : (closeFrame f e s).s.cmd.response = v.s.cmd.response := by
    rw [hu, har, State.copiedRecord_idle hidle, ite_self]
  rw [hstands, hv, State.abandonCopy, metByCommand, hbr, hbc]
  split
  · cases src <;> simp [State.copiedRecord, hc, hr, ResponseRecord.copyDone, numWord, once, Bank.bit]
  · simp [hc, hr]

/-- A record that is EMPTY or SENT stands (R110). -/
theorem broadcastReset_settled (h : Carries s f e r .nodeReset) (h0 : r.count = 0) (hb : r.cls = .broadcast)
    (hr : s.cmd.response.Settled) : (closeFrame f e s).s.cmd.response = s.cmd.response := by
  obtain ⟨v, after, ha, hu, hv, -⟩ := broadcastReset_response h h0 hb
  have hmet : (metByCommand s f e).cmd.response = s.cmd.response := Closing.beforeCommand_response hr
  have habandon : (metByCommand s f e).abandonCopy.cmd.response = s.cmd.response := by
    rw [State.abandonCopy, hmet]
    rcases hr with hr | ⟨a, hr⟩ <;> simp [hr]
  have hstands : v.s.cmd.response = s.cmd.response := by rw [hv, habandon, hmet, ite_self]
  rw [hu, Closing.meet_response ha (hstands ▸ hr), hstands]

/-! ### The notice sequence of a calm frame end that raises nothing (R122, R124) -/

/-- The frame end raises no notice and delivers none. -/
structure Closing.Unraised (w : Closing) : Prop where
  item : w.s.arb.item = .none
  number : w.frame.jumps w.outcome = false
  expiry : w.expired = []

theorem Closing.Unraised.item_seqCounter {w : Closing} (h : w.Unraised) {i : EndItem} (hi : i ≠ .command) :
    (w.item i).Unraised ∧ (w.item i).s.notices.seqCounter = w.s.notices.seqCounter := by
  cases i with
  | command => exact absurd rfl hi
  | resend => exact ⟨⟨h.item, h.number, h.expiry⟩, rfl⟩
  | delivery => rw [Closing.item, Closing.delivery_quiet h.item]; exact ⟨h, rfl⟩
  | jumpRaise => rw [Closing.item, Closing.jumpRaise_quiet h.number]; exact ⟨h, rfl⟩
  | expiryRaise => rw [Closing.item, Closing.expiryRaise_quiet h.expiry]; exact ⟨h, rfl⟩
  | copyCompletion =>
    show w.copyCompletion.Unraised ∧ w.copyCompletion.s.notices.seqCounter = _
    unfold Closing.copyCompletion
    split
    · exact ⟨⟨h.item, h.number, h.expiry⟩, rfl⟩
    · exact ⟨h, rfl⟩

theorem Closing.Unraised.meet_seqCounter {w : Closing} (h : w.Unraised) {items : List EndItem}
    (hi : EndItem.command ∉ items) :
    (w.meet items).Unraised ∧ (w.meet items).s.notices.seqCounter = w.s.notices.seqCounter := by
  unfold Closing.meet
  induction items generalizing w with
  | nil => exact ⟨h, rfl⟩
  | cons i rest ih =>
    obtain ⟨hne, hrest⟩ := List.ne_and_not_mem_of_not_mem_cons hi
    obtain ⟨hw, hq⟩ := h.item_seqCounter hne.symm
    obtain ⟨hv, hr⟩ := ih hw hrest
    exact ⟨hv, hr.trans hq⟩

/-- A NODE RESET has no part in the counting and brings no trigger, so a quiet frame end raises nothing there (R154). -/
theorem Closing.Quiet.counted_reset {w : Closing} {r : Request} (hq : w.Quiet) (h : w.taking = .accepted r .nodeReset) :
    w.beforeCapture.count.s.notices = w.s.notices := by
  have hbefore : w.beforeCapture = w := by
    have hstate : w.taking.beforeCapture w.s = w.s := by rw [h]; rfl
    rw [Closing.beforeCapture, hstate, ite_self]
  have hcount : w.count.s = ({ w with taking := .nothing } : Closing).count.s := by
    have hcauses : w.causes w.s.counters = ({ w with taking := .nothing } : Closing).causes w.s.counters := by
      unfold Closing.causes
      rw [h]
      rfl
    rw [Closing.count, hcauses]
    rfl
  have hquiet : ({ w with taking := .nothing } : Closing).Quiet := ⟨hq.gate, hq.fired, hq.mark⟩
  rw [hbefore, hcount, Closing.count_quiet hquiet Taking.idle_nothing]

/-- Where nothing else is raised, delivered or captured, RESTARTED takes the next sequence (R122). -/
theorem nodeReset_seqCounter (h : Carries s f e r .nodeReset) (h0 : r.count = 0) (hc : Calm s)
    (hn : NothingRaised s f) : (countedState f e s).notices.seqCounter = s.notices.seqCounter := by
  have hbegin : (Closing.begin f e s).Unraised := by
    refine ⟨by simpa using hc.item, ?_, begin_expired_nil f e hn.outputs⟩
    simp [FrameInFlight.jumps, hn.number]
  obtain ⟨after, ha, hw⟩ := worked_split f e s
  obtain ⟨-, -, hbefore, -⟩ := endItems_split e
  obtain ⟨hmet, hmetq⟩ := hbegin.meet_seqCounter hbefore
  rw [nodeReset_accepted h h0] at hw
  obtain ⟨-, -, harb, hnotices⟩ := acceptedAs_nodeReset ((Closing.beforeCommand f e s).sequenced (s.sequenceAfter r)) r
  obtain ⟨-, hq⟩ := Closing.Unraised.meet_seqCounter
    (w := ((Closing.beforeCommand f e s).sequenced (s.sequenceAfter r)).acceptedAs r .nodeReset)
    ⟨(congrArg Arbiter.item harb).trans hmet.item, hmet.number, hmet.expiry⟩ ha
  have hworked : (Closing.worked f e s).s.notices.seqCounter = s.notices.seqCounter := by
    rw [hw, hq, hnotices]
    exact hmetq.trans (by simp)
  have hquiet : (Closing.settled f e s).Quiet :=
    (quiet_of_calm hc (Closing.worked_same f e s)).delivered (Closing.worked f e s).marks
  have hcounted : (countedState f e s).notices = (Closing.settled f e s).s.notices :=
    hquiet.counted_reset (nodeReset_taking h h0)
  rw [hcounted]
  exact hworked

/-! ### The row -/

/-- A NODE RESET with parameters is refused, and changes nothing (R57, R109). -/
theorem nodeReset_refused (h : Carries s f e r .nodeReset) (h0 : r.count ≠ 0) :
    AnsweredIfUnicast (closeFrame f e s).s r .badParameter []
      ∧ SameButForTheAnswer s (closeFrame f e s).s (closeFrame f e s.withoutCommand).s := by
  obtain ⟨hheld, hname, -⟩ := h.held
  have hv : Refuses (metByCommand s f e) r .badParameter [] :=
    .inr ⟨.nodeReset, hname, by simp [checkCommand, checkNodeReset, require, h0]⟩
  rcases h with h | h
  · obtain ⟨ha, hs⟩ := closeFrame_refused_unicast h.toAtGoodEnd hheld h.unicast h.unseen hv
    exact ⟨fun _ => ha, hs⟩
  · have hseq : (Closing.beforeCommand f e s).s.cmd.broadcastSeq = s.cmd.broadcastSeq :=
      congrArg CommandMarks.broadcastSeq (Closing.beforeCommand_marks f e s)
    have hcmd := (Closing.command_taken (takenRequest_eq h.toAtGoodEnd hheld (by simp [h.broadcast]))).2 h.broadcast
    have hrefused := Closing.takeBroadcast_refused (w := Closing.beforeCommand f e s) (by rw [hseq]; exact h.unseen)
      (by rw [hname]; simp [BroadcastName]) hv
    obtain ⟨-, -, hs⟩ := closeFrame_marked_broadcast (hcmd.trans hrefused) (.inr ⟨_, rfl⟩) h.broadcast
    exact ⟨fun hu => absurd (h.broadcast.symm.trans hu) (by decide), hs⟩

/-- A NODE RESET of either class enters the broadcast sequence that its class gives (R98, R109). -/
theorem nodeReset_broadcastSeq (h : Carries s f e r .nodeReset) :
    (closeFrame f e s).s.cmd.broadcastSeq = s.sequenceAfter r := by
  obtain ⟨hheld, hname, hcls⟩ := h.held
  have hseq : (Closing.beforeCommand f e s).s.cmd.broadcastSeq = s.cmd.broadcastSeq :=
    congrArg CommandMarks.broadcastSeq (Closing.beforeCommand_marks f e s)
  have htaken := takenRequest_eq h.toAtGoodEnd hheld hcls
  rw [closeFrame_broadcastSeq, State.sequenceAfter]
  rcases h with h | h
  · rw [(Closing.command_taken htaken).1 h.unicast, Closing.takeUnicast_broadcastSeq, hseq,
      if_neg (by simp [h.unicast])]
  · rw [(Closing.command_taken htaken).2 h.broadcast, Closing.takeBroadcast,
      if_neg (by rw [hseq]; simpa using h.unseen),
      hname, if_pos h.broadcast]
    exact Closing.execute_broadcastSeq _ r

/-- What NODE RESET leaves (R66, R109, R122). -/
theorem nodeReset_resets (h : Carries s f e r .nodeReset) (h0 : r.count = 0) :
    ConfigurationReset (closeFrame f e s).s ∧ AnsweredIfUnicast (closeFrame f e s).s r .ok []
      ∧ (closeFrame f e s).s.map = { s.map with commit := none, copy := none, resetDue := true }
      ∧ (closeFrame f e s).s.notices =
        { records := [{ notice := .restarted r.restartCause, seq := (countedState f e s).notices.seqCounter
                        repeats := 0, state := .queued false }]
          seqCounter := (countedState f e s).notices.seqCounter + 1, dropped := 0
          pendingDrops := (countedState f e s).notices.pendingDrops } := by
  obtain ⟨l, hcmd, harb, -⟩ := countedState_eq f e s
  obtain ⟨x, hx⟩ := (doNodeReset r (countedState f e s)).1.answer_eq r
    (.unsent { seq := r.seq, tag := r.tag, status := .ok, data := [] })
  have hu := closeFrame_nodeReset h h0
  refine ⟨?_, fun hc => ?_, ?_, ?_⟩
  · rw [hu, hx]
    exact configurationReset_doNodeReset r (by rw [hcmd]) (by rw [hcmd]) (by rw [harb]) (by rw [harb]) (by rw [harb])
      (by rw [harb]) x
  · rw [hu, Answered, State.answer, hc]
  · rw [hu, hx]
    exact countedState_banks f e s
  · rw [hu, hx]
    exact raise_into_empty (countedState f e s).notices (countedState f e s).arb.item _

end

/-- Settles O39: a NODE RESET that is refused leaves the node; one that is accepted resets what the frame end left. -/
theorem nodeResetKeepsLinkAndAddress : Obligations.NodeResetKeepsLinkAndAddress := by
  unfold Obligations.NodeResetKeepsLinkAndAddress
  intro s f e r h
  have hend := h.toAtGoodEnd.toAtEnd
  obtain ⟨-, -, hframe, hlink, htx⟩ := closeFrame_host f e s
  obtain ⟨-, -, -, hlink', htx'⟩ := closeFrame_host f e s.withoutCommand
  obtain ⟨hheld, hname, -⟩ := h.held
  have haddress : (closeFrame f e s).s.cmd.address = s.cmd.address :=
    closeFrame_address (fun q hq => by rw [hheld] at hq; cases hq; rw [hname]; simp) f e
  have hseq := nodeReset_broadcastSeq h
  refine ⟨_, _, exec_nodeReset_eq h, exec_frameEnd_eq e hend.withoutCommand, hlink.trans hlink'.symm,
    htx.trans htx'.symm, hframe, haddress, fun hc => ?_, fun hc => ?_, fun h0 => ?_, nodeReset_refused h⟩
  · rw [hseq, State.sequenceAfter, if_neg (by simp [hc])]
  · rw [hseq, State.sequenceAfter, if_pos hc]
  · obtain ⟨hreset, hanswer, hmap, hnotices⟩ := nodeReset_resets h h0
    refine ⟨hreset, hanswer, hmap, ⟨_, ?_, ?_, ?_, nodeReset_seqCounter h h0⟩, fun sq t src hb hr hc hi => ?_,
      fun hb hr => broadcastReset_settled h h0 hb hr⟩
    · rw [hnotices]
      cases hc : r.cls <;> simp [Request.restartCause, hc]
    · rw [hnotices]
    · rw [hnotices]
    · rw [broadcastReset_pending h h0 hb hr hc hi]
      exact ⟨fun hp => if_pos ((precedes_command_iff e _).1 hp), fun hp => if_neg (not_precedes_of_command hp)⟩

end Sys2Proof.Machine
end

section
/-! SUPPORT. The response record as the command meets it, and the four amounts that the command hands in (R97, R98,
R101, R104, R107). -/

namespace Sys2Proof.Machine

/-! ### The record that the command meets (R101) -/

section
variable {s : State} {f : FrameInFlight} {e : FrameClose}

/-- A PENDING record is met PENDING, or answered by the copy that has completed (R65, R101). -/
theorem beforeCommand_pending (hf : EventsFresh s) {q : SequenceNumber} {t : Tag} (hr : s.cmd.response = .pending q t) :
    (Closing.beforeCommand f e s).s.cmd.response = .pending q t
      ∨ ∃ a, (Closing.beforeCommand f e s).s.cmd.response = .unsent a ∧ a.seq = q := by
  have hitem : s.arb.item ≠ .response := fun hi => by
    obtain ⟨a, ha⟩ := hf.written hi
    cases hr.symm.trans ha
  obtain ⟨-, -, hb, -⟩ := endItems_split e
  obtain ⟨hmet, -⟩ := Closing.meet_unwritten (w := Closing.begin f e s) hb (by simpa using hitem)
  rw [Closing.beforeCommand, hmet, State.copiedRecord]
  simp only [Closing.begin_map, Closing.begin_cmd, hr]
  split
  · cases s.map.copy with
    | none => exact .inl rfl
    | some src => exact .inr ⟨_, rfl, rfl⟩
  · exact .inl rfl

/-- An UNSENT record is met SENT, at a GOOD end, where its delivery comes before the command (R101, R120). -/
theorem beforeCommand_unsent (hg : EndsGood f e.check) {a : Answer} (hr : s.cmd.response = .unsent a) :
    (SentBefore s e → (Closing.beforeCommand f e s).s.cmd.response = .sent a)
      ∧ (¬SentBefore s e → (Closing.beforeCommand f e s).s.cmd.response = .unsent a) := by
  obtain ⟨-, -, hb, -⟩ := endItems_split e
  have hbegin : (Closing.begin f e s).s.cmd.response = .unsent a := by simpa using hr
  have hdelivers : (f.outcome e.check).delivers = true := by
    rw [outcome_good_iff.2 hg]
    rfl
  unfold SentBefore Closing.beforeCommand
  rw [precedes_command_iff]
  by_cases hi : s.arb.item = .response
  · rw [Closing.meet_written hb (by simpa using hi) hbegin]
    simp [hi, hdelivers]
  · obtain ⟨hmet, -⟩ := Closing.meet_unwritten (w := Closing.begin f e s) hb (by simpa using hi)
    rw [hmet, State.copiedRecord_unsent hbegin, hbegin, ite_self]
    simp [hi]

/-- How the record that the command meets receives it (R97, R101). -/
theorem receive_beforeCommand (hf : EventsFresh s) (hg : EndsGood f e.check) (r : Request) :
    ((Closing.beforeCommand f e s).s.cmd.response.receive r.seq = .execute ↔ NewTo s e r)
      ∧ ((Closing.beforeCommand f e s).s.cmd.response.receive r.seq = .overrun ↔ Overruns s e r)
      ∧ ((Closing.beforeCommand f e s).s.cmd.response.receive r.seq = .resend ↔ RepeatOf s e r) := by
  unfold NewTo Overruns RepeatOf
  cases hr : s.cmd.response with
  | empty =>
    rw [Closing.beforeCommand_response (.inl hr), hr]
    simp [ResponseRecord.receive]
  | sent a =>
    rw [Closing.beforeCommand_response (.inr ⟨a, hr⟩), hr]
    by_cases hq : a.seq = r.seq <;> simp [ResponseRecord.receive, hq, Ne.symm]
  | pending q t =>
    by_cases hq : q = r.seq
    · rcases beforeCommand_pending (f := f) (e := e) hf hr with hx | ⟨a, hx, ha⟩ <;>
        simp [ResponseRecord.receive, *]
    · rcases beforeCommand_pending (f := f) (e := e) hf hr with hx | ⟨a, hx, ha⟩ <;>
        simp [ResponseRecord.receive, Ne.symm hq, *]
  | unsent a =>
    obtain ⟨hsent, hunsent⟩ := beforeCommand_unsent (e := e) hg hr
    by_cases hb : SentBefore s e
    · rw [hsent hb]
      by_cases hq : a.seq = r.seq <;> simp [ResponseRecord.receive, hq, hb, Ne.symm]
    · rw [hunsent hb]
      by_cases hq : a.seq = r.seq <;> simp [ResponseRecord.receive, hq, hb, Ne.symm]

end

/-! ### The amounts of a command (R104) -/

/-- The four amounts of a command say whether it was taken, refused, overrun and resent. -/
structure CommandAmounts.Tell (a : CommandAmounts) (taken refused overrun resent : Prop) : Prop where
  taken : a.taken = true ↔ taken
  refused : a.refused = true ↔ refused
  overrun : a.overrun = true ↔ overrun
  resent : a.resent = true ↔ resent

/-- The command is refused where the node of `w` meets it (R102). -/
def Closing.Turns (w : Closing) (r : Request) : Prop := ∃ st data, Refuses w.s r st data

section
variable {w : Closing} {r : Request}

/-- An executed command is counted as taken, and as refused where it is (R104). -/
theorem Closing.execute_amounts (w : Closing) (r : Request) :
    (w.execute r).s.cmd.amounts.Tell True (w.Turns r) False False := by
  rcases w.execute_cases r with ⟨n, hn, hp, h⟩ | ⟨t, ht, h⟩ <;> rw [h]
  · have hnot : ¬w.Turns r := by
      rintro ⟨st, data, ⟨hu, -⟩ | ⟨m, hm, hc⟩⟩
      · cases hu.symm.trans hn
      · cases hm.symm.trans hn
        cases hc.symm.trans hp
    exact ⟨iff_of_true rfl trivial, iff_of_false Bool.false_ne_true hnot, iff_of_false Bool.false_ne_true id,
      iff_of_false Bool.false_ne_true id⟩
  · exact ⟨iff_of_true rfl trivial, iff_of_true rfl ⟨_, _, ht⟩, iff_of_false Bool.false_ne_true id,
      iff_of_false Bool.false_ne_true id⟩

/-- A unicast is counted by how the sequence record receives it (R97, R104). -/
theorem Closing.takeUnicast_amounts (h : w.s.cmd.amounts = CommandAmounts.zero) (r : Request) :
    (w.takeUnicast r).s.cmd.amounts.Tell (w.s.cmd.response.receive r.seq = .execute)
      (w.s.cmd.response.receive r.seq = .execute ∧ w.Turns r) (w.s.cmd.response.receive r.seq = .overrun)
      (w.s.cmd.response.receive r.seq = .resend) := by
  unfold Closing.takeUnicast
  cases w.s.cmd.response.receive r.seq with
  | nothing => constructor <;> simp [h, CommandAmounts.zero]
  | overrun => constructor <;> simp [State.countCommand]
  | resend => constructor <;> simp [State.countCommand]
  | execute =>
    obtain ⟨ht, hr, ho, hs⟩ := w.execute_amounts r
    constructor <;> simp [*]

/-- A claimed command is counted in the same way, but one that fails its checks is refused untaken (R104, R107). -/
theorem Closing.takeClaimed_amounts (h : w.s.cmd.amounts = CommandAmounts.zero) (r : Request) :
    (w.takeClaimed r).s.cmd.amounts.Tell (w.s.cmd.response.receive r.seq = .execute ∧ checkAssignAddress r = none)
      ((w.s.cmd.response.receive r.seq = .execute ∧ checkAssignAddress r = none) ∧ w.Turns r
        ∨ w.s.cmd.response.receive r.seq = .execute ∧ checkAssignAddress r ≠ none)
      (w.s.cmd.response.receive r.seq = .overrun) (w.s.cmd.response.receive r.seq = .resend) := by
  unfold Closing.takeClaimed
  split
  · next hr hc => constructor <;> simp [State.countCommand, hr, hc]
  · next hne =>
    obtain ⟨ht, hr, ho, hs⟩ := Closing.takeUnicast_amounts h r
    have hpass : w.s.cmd.response.receive r.seq = .execute → checkAssignAddress r = none := fun hx =>
      Option.eq_none_iff_forall_ne_some.2 fun t hc => hne t hx hc
    rw [← iff_self_and] at hpass
    exact ⟨ht.trans hpass, hr.trans (by rw [← hpass]; simp +contextual [hpass.1]), ho, hs⟩

/-- A broadcast under a new sequence is counted as taken if its code is accepted, and otherwise as refused (R98,
R104). -/
theorem Closing.takeBroadcast_amounts (h : w.s.cmd.amounts = CommandAmounts.zero) (r : Request) :
    (w.takeBroadcast r).s.cmd.amounts.Tell (w.s.cmd.broadcastSeq ≠ some r.seq ∧ BroadcastName r.name)
      ((w.s.cmd.broadcastSeq ≠ some r.seq ∧ BroadcastName r.name) ∧ w.Turns r
        ∨ w.s.cmd.broadcastSeq ≠ some r.seq ∧ ¬BroadcastName r.name) False False := by
  by_cases hseq : w.s.cmd.broadcastSeq = some r.seq
  · have hsame : w.takeBroadcast r = w := by simp [Closing.takeBroadcast, hseq]
    rw [hsame]
    constructor <;> simp [h, hseq, CommandAmounts.zero]
  · by_cases hn : BroadcastName r.name
    · have hexec : w.takeBroadcast r = (w.sequenced (some r.seq)).execute r := by
        cases hname : r.name with
        | none => rw [hname] at hn; simp [BroadcastName] at hn
        | some n => simp [Closing.takeBroadcast, hseq, hname, acceptsBroadcast_iff.2 (hname ▸ hn), Closing.sequenced]
      have hturns : (w.sequenced (some r.seq)).Turns r ↔ w.Turns r :=
        ⟨fun ⟨st, data, hv⟩ => ⟨st, data, refuses_broadcastSeq hv w.s.cmd.broadcastSeq⟩,
          fun ⟨st, data, hv⟩ => ⟨st, data, refuses_broadcastSeq hv (some r.seq)⟩⟩
      obtain ⟨ht, hr, ho, hs⟩ := (w.sequenced (some r.seq)).execute_amounts r
      rw [hexec]
      exact ⟨ht.trans (iff_of_true trivial ⟨hseq, hn⟩), hr.trans (by simp [hturns, hseq, hn]), ho, hs⟩
    · rw [Closing.takeBroadcast_ignored hseq hn]
      constructor <;> simp [CommandMarks.ignored, Closing.marked, hseq, hn]

end

theorem checkAssignAddress_eq_none {r : Request} : checkAssignAddress r = none ↔ ClaimFits r := by
  simp [checkAssignAddress, ClaimFits, require_eq_none]

section
variable {s : State} {f : FrameInFlight} {e : FrameClose}

/-- The frame end has a command to take (R96). -/
def TakesOne (s : State) (f : FrameInFlight) (e : FrameClose) (r : Request) : Prop :=
  EndsGood f e.check ∧ s.cmd.inFlight = some r ∧ r.cls ≠ .none

theorem takenRequest_beforeCommand {r : Request} :
    takenRequest (Closing.beforeCommand f e s).s (Closing.beforeCommand f e s).outcome = some r
      ↔ TakesOne s f e r := by
  have hheld : (Closing.beforeCommand f e s).s.cmd.inFlight = s.cmd.inFlight :=
    congrArg CommandMarks.held (Closing.beforeCommand_marks f e s)
  rw [takenRequest_eq_some, hheld, Closing.beforeCommand_outcome, outcome_good_iff]
  exact ⟨fun ⟨h, g, c⟩ => ⟨g, h, c⟩, fun ⟨g, h, c⟩ => ⟨h, g, c⟩⟩

theorem ExecutesAny.takesOne {r : Request} (h : ExecutesAny s f e r) : TakesOne s f e r := by
  obtain ⟨hg, hr, hc⟩ := h
  exact ⟨hg, hr, by rcases hc with ⟨hc, -⟩ | ⟨hc, -⟩ | ⟨hc, -⟩ <;> simp [hc]⟩

theorem RefusesAny.takesOne {r : Request} (h : RefusesAny s f e r) : TakesOne s f e r := by
  rcases h with ⟨h, -⟩ | ⟨hg, hr, hc⟩
  · exact h.takesOne
  · exact ⟨hg, hr, by rcases hc with ⟨hc, -⟩ | ⟨hc, -⟩ <;> simp [hc]⟩

/-- A frame end takes one command at most: the one in flight (R96). -/
theorem TakesOne.only {r : Request} (h : TakesOne s f e r) {P : Request → Prop} (hP : ∀ q, P q → TakesOne s f e q) :
    (∃ q, P q) ↔ P r := by
  refine ⟨fun ⟨q, hq⟩ => ?_, fun hr => ⟨r, hr⟩⟩
  obtain ⟨-, hheld, -⟩ := h
  obtain ⟨-, hheld', -⟩ := hP q hq
  cases hheld.symm.trans hheld'
  exact hq

/-- What the command unit hands in at a frame end (R104). -/
theorem worked_amounts (hf : EventsFresh s) : (Closing.worked f e s).s.cmd.amounts.Tell
    (∃ r, ExecutesAny s f e r) (∃ r, RefusesAny s f e r)
    (EndsGood f e.check ∧ ∃ r, s.cmd.inFlight = some r
      ∧ (r.cls = .unicast ∨ r.cls = .firstUnaddressed) ∧ Overruns s e r)
    (EndsGood f e.check ∧ ∃ r, s.cmd.inFlight = some r
      ∧ (r.cls = .unicast ∨ r.cls = .firstUnaddressed) ∧ RepeatOf s e r) := by
  have hmarks := Closing.beforeCommand_marks f e s
  have hzero : (Closing.beforeCommand f e s).s.cmd.amounts = CommandAmounts.zero :=
    (congrArg CommandMarks.amounts hmarks).trans hf.command
  have hseq : (Closing.beforeCommand f e s).s.cmd.broadcastSeq = s.cmd.broadcastSeq :=
    congrArg CommandMarks.broadcastSeq hmarks
  have hworked : (Closing.worked f e s).s.cmd.amounts = (Closing.beforeCommand f e s).command.s.cmd.amounts :=
    congrArg CommandMarks.amounts (worked_marks f e s)
  rw [hworked, Closing.command]
  cases ht : takenRequest (Closing.beforeCommand f e s).s (Closing.beforeCommand f e s).outcome with
  | none =>
    have hnone : ∀ r, ¬TakesOne s f e r := fun r hr => by
      cases ht.symm.trans (takenRequest_beforeCommand.2 hr)
    have hunseen : ∀ P : Request → Prop, ¬(EndsGood f e.check ∧ ∃ r, s.cmd.inFlight = some r
        ∧ (r.cls = .unicast ∨ r.cls = .firstUnaddressed) ∧ P r) := by
      rintro P ⟨hg, r, hr, hc, -⟩
      exact hnone r ⟨hg, hr, by rcases hc with hc | hc <;> simp [hc]⟩
    dsimp only
    rw [hzero]
    exact ⟨iff_of_false Bool.false_ne_true fun ⟨r, hr⟩ => hnone r hr.takesOne,
      iff_of_false Bool.false_ne_true fun ⟨r, hr⟩ => hnone r hr.takesOne,
      iff_of_false Bool.false_ne_true (hunseen _), iff_of_false Bool.false_ne_true (hunseen _)⟩
  | some r =>
    obtain ⟨hg, hr, hcls⟩ := takenRequest_beforeCommand.1 ht
    obtain ⟨hexec, hover, hrepeat⟩ := receive_beforeCommand hf hg r
    have hturns : (Closing.beforeCommand f e s).Turns r ↔ ∃ st data, Refuses (metByCommand s f e) r st data := Iff.rfl
    have htakes : TakesOne s f e r := ⟨hg, hr, hcls⟩
    rw [htakes.only fun _ => ExecutesAny.takesOne, htakes.only fun _ => RefusesAny.takesOne]
    cases hc : r.cls with
    | none => exact absurd hc hcls
    | unicast =>
      obtain ⟨h1, h2, h3, h4⟩ := Closing.takeUnicast_amounts hzero r
      constructor <;> simp [ExecutesAny, RefusesAny, *]
    | firstUnaddressed =>
      obtain ⟨h1, h2, h3, h4⟩ := Closing.takeClaimed_amounts hzero r
      constructor <;> simp [ExecutesAny, RefusesAny, checkAssignAddress_eq_none, *]
    | broadcast =>
      obtain ⟨h1, h2, h3, h4⟩ := Closing.takeBroadcast_amounts hzero r
      constructor <;> simp [ExecutesAny, RefusesAny, *]

end

/-! ### The response sent (R120, R121) -/

/-- A command that meets the other works leaves an UNSENT record alone. -/
theorem meetCommand_unsent {s : State} {a : Answer} (h : s.cmd.response = .unsent a) (n : CommandName) (r : Request)
    (b : Bool) : (meetCommand n r b s).cmd.response = .unsent a := by
  cases n
  case nodeReset =>
    unfold meetCommand
    dsimp only
    split
    · simp [State.abandonCopy, h]
    · exact h
  case setParameter =>
    obtain ⟨p, k, hm⟩ := meetParameter_eq r b s
    show (meetParameter r b s).cmd.response = _
    rw [hm, h]
  all_goals exact h

/-- So does every command; and none touches the arbiter. -/
theorem Closing.command_unsent (w : Closing) : w.command.s.arb = w.s.arb
    ∧ ∀ a, w.s.cmd.response = .unsent a → w.command.s.cmd.response = .unsent a := by
  generalize hv : w.command = v
  have hc := w.command_commanded
  rw [hv] at hc
  cases hc with
  | marks m _ => exact ⟨rfl, fun a h => h⟩
  | resent => exact ⟨rfl, fun a h => by simp [State.countCommand, State.reopenResponse, h, ResponseRecord.reopen]⟩
  | accepted r n q _ =>
    refine ⟨?_, fun a h => meetCommand_unsent (by exact h) n r _⟩
    obtain ⟨p, x, k, c, hm⟩ := meetCommand_eq n r w.snapshotFirst { w.s with cmd := { w.s.cmd with broadcastSeq := q } }
    rw [hm]
    rfl

/-- Every work but the delivery leaves the arbiter alone, and an UNSENT record too. -/
theorem Closing.item_undelivered (w : Closing) {i : EndItem} (hi : i ≠ .delivery) : (w.item i).s.arb = w.s.arb
    ∧ ∀ a, w.s.cmd.response = .unsent a → (w.item i).s.cmd.response = .unsent a := by
  by_cases hc : i = .command
  · subst hc
    exact w.command_unsent
  · by_cases hk : i = .copyCompletion
    · subst hk
      obtain ⟨hcmd, harb, -⟩ := w.copyCompletion_eq
      exact ⟨harb, fun a h => (congrArg CommandUnit.response hcmd).trans (State.copiedRecord_unsent h)⟩
    · obtain ⟨hcmd, harb, -⟩ := w.item_bystander hi hk hc
      exact ⟨harb, fun a h => by rw [hcmd, h]⟩

/-- Where the response was not written, RESPONSE_SENT stands. -/
theorem Closing.meet_sent_unwritten {w : Closing} (items : List EndItem) (h : w.s.arb.item ≠ .response) :
    (w.meet items).s.arb.sentResponse = w.s.arb.sentResponse := by
  unfold Closing.meet
  induction items generalizing w with
  | nil => rfl
  | cons i rest ih =>
    have hstep : (w.item i).s.arb.item ≠ .response ∧ (w.item i).s.arb.sentResponse = w.s.arb.sentResponse := by
      by_cases hd : i = .delivery
      · subst hd
        obtain ⟨-, harb, -⟩ := Closing.delivery_unwritten h
        show w.delivery.s.arb.item ≠ _ ∧ w.delivery.s.arb.sentResponse = _
        rw [harb]
        exact ⟨by simp, rfl⟩
      · rw [(w.item_undelivered hd).1]
        exact ⟨h, rfl⟩
    obtain ⟨hitem, hsent⟩ := hstep
    exact (ih hitem).trans hsent

/-- Where an UNSENT response was written, RESPONSE_SENT says whether the item was delivered. -/
theorem Closing.meet_sent_written {w : Closing} {items : List EndItem} {a : Answer} (h : w.s.arb.item = .response)
    (hr : w.s.cmd.response = .unsent a) (hd : EndItem.delivery ∈ items) :
    (w.meet items).s.arb.sentResponse = (w.s.arb.sentResponse || w.outcome.delivers) := by
  unfold Closing.meet
  induction items generalizing w with
  | nil => cases hd
  | cons i rest ih =>
    by_cases hi : i = .delivery
    · subst hi
      obtain ⟨-, harb, -⟩ := Closing.delivery_written h hr
      refine (Closing.meet_sent_unwritten (w := w.delivery) rest (by rw [harb]; simp)).trans ?_
      rw [harb]
    · obtain ⟨harb, hresp⟩ := w.item_undelivered hi
      have hout : (w.item i).outcome = w.outcome := (w.item_same i).closing.2.1
      rw [List.foldl_cons, ih (by rw [harb, h]) (hresp a hr) (List.mem_of_ne_of_mem (Ne.symm hi) hd), harb, hout]

theorem worked_sent {s : State} (hf : EventsFresh s) (f : FrameInFlight) (e : FrameClose) :
    (Closing.worked f e s).s.arb.sentResponse = true
      ↔ s.arb.item = .response ∧ (f.regenerated = true ∨ e.check = crcValue f.rxCrc) := by
  have hfresh : (Closing.begin f e s).s.arb.sentResponse = false := by
    obtain ⟨-, -, -, -, -, -, -, -, -, -, -, harb, -⟩ := Closing.begin_state f e s
    rw [harb]
    exact hf.sent
  unfold Closing.worked
  by_cases hi : s.arb.item = .response
  · obtain ⟨a, ha⟩ := hf.written hi
    rw [Closing.meet_sent_written (by simpa using hi) (by simpa using ha) (mem_endItems e .delivery), hfresh,
      Closing.begin_outcome, Bool.false_or, outcome_delivers_iff]
    simp [hi]
  · rw [Closing.meet_sent_unwritten _ (by simpa using hi), hfresh]
    simp [hi]

end Sys2Proof.Machine
end

section
/-! SUPPORT. The amounts of a frame, source by source: what the node hands to its counters is what the manual says (R33,
R50, R51, R89, R104, R121, R134, R138, R139). -/

namespace Sys2Proof.Machine

/-! ### The tables (R50, R51, R89) -/

/-- One channel source's amounts are handed in and the others stand. -/
theorem FrameAmounts.channel_putChannel (a : FrameAmounts) (src x : ChannelSource) (g : Channel → Nat) (c : Channel) :
    (a.putChannel src g).channel[x.row][c] = if x = src then g c else a.channel[x.row][c] := by
  by_cases h : x = src
  · subst h
    simp [FrameAmounts.putChannel, AmountTable.putRow]
  · have hrow : src.row.val ≠ x.row.val := by
      intro he
      apply h
      revert he
      cases src <;> cases x <;> decide
    simp [FrameAmounts.putChannel, AmountTable.putRow, h, hrow]

@[simp] theorem FrameAmounts.slot_putChannel (a : FrameAmounts) (src : ChannelSource) (g : Channel → Nat) :
    (a.putChannel src g).slot = a.slot := rfl
@[simp] theorem FrameAmounts.node_putChannel (a : FrameAmounts) (src : ChannelSource) (g : Channel → Nat) :
    (a.putChannel src g).node = a.node := rfl

/-- The records handed over raise SLOT_TAPPED by one each, under their classes, and no other slot amount (R50, R51). -/
theorem tappedAmounts_get (t : AmountTable 8) (taps : List TapRecord) (r k : Fin 8) :
    (tappedAmounts t taps)[r][k] =
      if r = SlotSource.tapped.row then t[r][k] + (taps.filter fun x => x.cls == k).length else t[r][k] := by
  unfold tappedAmounts
  induction taps generalizing t with
  | nil => simp
  | cons x rest ih =>
    rw [List.foldl_cons, ih, AmountTable.get_add]
    by_cases hr : r = SlotSource.tapped.row
    · by_cases hk : k = x.cls
      · simp [hr, hk]
        omega
      · simp [hr, hk, Ne.symm hk]
    · simp [hr]

/-- The records handed over at the end of frame `f`: those of a GOOD frame (R50). -/
def handedTaps (f : FrameInFlight) (e : FrameClose) (s : State) : List TapRecord :=
  if f.outcome e.check == .good then s.slots.staged else []

theorem tapFor_isSome {taps : List TapRecord} {c : Channel} :
    (tapFor taps c).isSome = true ↔ ∃ t ∈ taps, t.channel = c := by
  simp [tapFor]

section
variable {f : FrameInFlight} {e : FrameClose} {s : State} {c : Channel}

/-- OUTPUT_UPDATED (R84, R89). -/
theorem updates_iff : s.outputs[c].updates (tapFor (handedTaps f e s) c) = true ↔ Updated s f e c := by
  have htaken : (tapFor (handedTaps f e s) c).isSome = true
      ↔ EndsGood f e.check ∧ ∃ t ∈ s.slots.staged, t.channel = c := by
    rw [tapFor_isSome, handedTaps, ← outcome_good_iff]
    split <;> simp_all
  unfold Updated OutputChannel.updates
  cases s.outputs[c] <;> simp [htaken]

/-- OUTPUT_SAFE (R85, R89). -/
theorem endsSafe_iff :
    (s.outputs[c].frameEnd (tapFor (handedTaps f e s) c) s.cmd.params.holdLimit[c]).isSafe = true
      ↔ EndsSafe s f e c := by
  unfold EndsSafe
  rw [← updates_iff]
  generalize tapFor (handedTaps f e s) c = taken
  generalize s.cmd.params.holdLimit[c] = l
  cases s.outputs[c] with
  | unassigned => simp [OutputChannel.frameEnd, OutputChannel.isSafe]
  | safe => cases taken <;> simp [OutputChannel.frameEnd, OutputChannel.isSafe, OutputChannel.updates]
  | live v age =>
    cases taken with
    | some v => simp [OutputChannel.frameEnd, OutputChannel.isSafe, OutputChannel.updates]
    | none =>
      have hexpires : (OutputChannel.live v age).expires none l = true ↔ l ≠ 0 ∧ l ≤ min 255 (age + 1) := by
        simp [OutputChannel.expires]
      simp only [OutputChannel.frameEnd, hexpires]
      split <;> simp_all [OutputChannel.isSafe, OutputChannel.updates]

end

/-! ### The amounts handed in (R139) -/

/-- What the node hands in of each node source at the end of frame `f`. -/
def nodeAmount (f : FrameInFlight) (e : FrameClose) (s : State) (src : NodeSource) : Nat :=
  let o := f.outcome e.check
  let w := Closing.worked f e s
  match src with
  | .frameGood => once (o == .good)
  | .frameDamaged => once (o == .damaged)
  | .frameRegenerated => once (o == .regenerated)
  | .framePassedRegenerated => once (o == .good && headerRegenerated f.header)
  | .syncMiss => s.link.pendMiss
  | .frameDropped => s.link.pendDropped
  | .numberJump => once (f.jumps o)
  | .commandTaken => once w.s.cmd.amounts.taken
  | .commandRefused => once w.s.cmd.amounts.refused
  | .commandOverrun => once w.s.cmd.amounts.overrun
  | .responseResent => once w.s.cmd.amounts.resent
  | .regionWritten => once w.s.arb.written
  | .regionDenied => once w.s.arb.denied
  | .responseSent => once w.s.arb.sentResponse
  | .noticeDropped => w.s.notices.pendingDrops
  | .always => 1

/-- The amounts as the frame end has them before the works that meet. -/
theorem begin_amounts (f : FrameInFlight) (e : FrameClose) (s : State) :
    (Closing.begin f e s).s.counters.frame =
      ((((({ linkAmounts s.counters.frame s.link f (f.outcome e.check) with
        slot := tappedAmounts s.slots.amounts (handedTaps f e s) } : FrameAmounts).putChannel
          .arrived (channelAmount s (handedTaps f e s) .arrived)).putChannel
          .overwritten (channelAmount s (handedTaps f e s) .overwritten)).putChannel
          .updated (channelAmount s (handedTaps f e s) .updated)).putChannel
          .safe (channelAmount s (handedTaps f e s) .safe)) := by
  unfold Closing.begin Closing.schedule
  split <;> rfl

/-- The amounts that the counters take are those that the blocks hand in (R139). -/
theorem settled_amounts (f : FrameInFlight) (e : FrameClose) (s : State) :
    (Closing.settled f e s).s.counters.frame.slot = tappedAmounts s.slots.amounts (handedTaps f e s)
      ∧ (∀ (src : ChannelSource) (c : Channel), (Closing.settled f e s).s.counters.frame.channel[src.row][c]
          = channelAmount s (handedTaps f e s) src c)
      ∧ ∀ src : NodeSource, (Closing.settled f e s).s.counters.frame.node[src.row] = nodeAmount f e s src := by
  have hworked : (Closing.worked f e s).s.counters.frame = (Closing.begin f e s).s.counters.frame :=
    congrArg CounterBank.frame (Closing.worked_same f e s).counters
  rw [settled_eq_deliver]
  simp only [Closing.deliver, hworked, begin_amounts, FrameAmounts.slot_putNode, FrameAmounts.channel_putNode,
    FrameAmounts.slot_putChannel]
  refine ⟨trivial, fun src c => ?_, fun src => ?_⟩
  · cases src <;> simp only [FrameAmounts.channel_putChannel, reduceCtorEq, if_true, if_false]
  · cases src <;>
      simp only [FrameAmounts.node_putNode, FrameAmounts.node_putChannel, linkAmounts, nodeAmount, reduceCtorEq,
        if_true, if_false]

/-! ### The amount of a counter's source (R138) -/

theorem Once.eq_once {p : Prop} {a : Nat} (h : Once p a) {b : Bool} (hb : b = true ↔ p) : a = once b := by
  obtain ⟨hone, hzero⟩ := h
  cases b with
  | true => exact hone (hb.1 rfl)
  | false => exact hzero fun hp => Bool.false_ne_true (hb.2 hp)

theorem OnceEach.eq_sum {m : BitVec 8} {p : Fin 8 → Prop} {a : Nat} (h : OnceEach m p a) {b : Fin 8 → Bool}
    (hb : ∀ k, b k = true ↔ p k) : a = ∑ k : Fin 8, if m.getLsbD k.val then once (b k) else 0 := by
  obtain ⟨n, hn, rfl⟩ := h
  refine Finset.sum_congr rfl fun k _ => ?_
  rw [(hn k).eq_once (b := m.getLsbD k.val && b k) (by rw [Bool.and_eq_true, hb])]
  cases m.getLsbD k.val <;> rfl

section
variable {s : State} {f : FrameInFlight} {e : FrameClose} {c : CounterControl} {a : Nat}

theorem slotAmount_eq {src : SlotSource} (hc : c.source = .slot src) (h : AmountIs s f e c a) :
    a = (Closing.settled f e s).s.counters.frame.amount c := by
  obtain ⟨hslot, -⟩ := settled_amounts f e s
  simp only [FrameAmounts.amount, hc, maskedSum_eq, hslot, tappedAmounts_get]
  cases src
  case tapped =>
    simp only [AmountIs, hc] at h
    obtain ⟨n, hgood, hbad, rfl⟩ := h
    refine Finset.sum_congr rfl fun k _ => congrArg (if c.mask.getLsbD k.val = true then · else 0) ?_
    rw [if_pos rfl, handedTaps]
    by_cases hg : EndsGood f e.check
    · rw [hgood k hg, outcome_good_iff.2 hg]
      rfl
    · have ho : (f.outcome e.check == .good) = false := by simpa using mt outcome_good_iff.1 hg
      rw [hbad k hg, ho]
      rfl
  all_goals
    simp only [AmountIs, hc] at h
    exact h

theorem channelAmount_eq {src : ChannelSource} (hc : c.source = .channel src) (h : AmountIs s f e c a) :
    a = (Closing.settled f e s).s.counters.frame.amount c := by
  obtain ⟨-, hchannel, -⟩ := settled_amounts f e s
  simp only [FrameAmounts.amount, hc, maskedSum_eq, hchannel]
  simp only [AmountIs, hc] at h
  cases src with
  | arrived | overwritten => exact h
  | updated => exact OnceEach.eq_sum h fun k => updates_iff
  | safe => exact OnceEach.eq_sum h fun k => endsSafe_iff

theorem nodeAmount_eq {src : NodeSource} (hf : EventsFresh s) (hc : c.source = .node src) (h : AmountIs s f e c a) :
    a = (Closing.settled f e s).s.counters.frame.amount c := by
  obtain ⟨-, -, hnode⟩ := settled_amounts f e s
  obtain ⟨htaken, hrefused, hoverrun, hresent⟩ := worked_amounts (f := f) (e := e) hf
  obtain ⟨hwritten, hdenied⟩ := (Closing.worked_same f e s).region
  obtain ⟨-, -, -, -, -, -, -, -, -, -, -, harb, -⟩ := Closing.begin_state f e s
  rw [harb] at hwritten hdenied
  simp only [FrameAmounts.amount, hc, hnode]
  simp only [AmountIs, hc] at h
  cases src with
  | syncMiss | frameDropped | noticeDropped | always => exact h
  | frameGood => exact Once.eq_once h (by rw [beq_iff_eq, outcome_good_iff])
  | frameDamaged => exact Once.eq_once h (by rw [beq_iff_eq, outcome_damaged_iff])
  | frameRegenerated => exact Once.eq_once h (by rw [beq_iff_eq, outcome_regenerated_iff])
  | framePassedRegenerated =>
    exact Once.eq_once h (by rw [Bool.and_eq_true, beq_iff_eq, outcome_good_iff]; rfl)
  | numberJump => exact Once.eq_once h jumps_iff
  | commandTaken => exact Once.eq_once h htaken
  | commandRefused => exact Once.eq_once h hrefused
  | commandOverrun => exact Once.eq_once h hoverrun
  | responseResent => exact Once.eq_once h hresent
  | regionWritten => exact Once.eq_once h (by rw [hwritten])
  | regionDenied => exact Once.eq_once h (by rw [hdenied])
  | responseSent => exact Once.eq_once h (worked_sent hf f e)

/-- The amount that the manual gives a counter is the one that it takes (R138, R139). -/
theorem amount_eq (hf : EventsFresh s) (h : AmountIs s f e c a) :
    a = (Closing.settled f e s).s.counters.frame.amount c := by
  cases hc : c.source with
  | slot src => exact slotAmount_eq hc h
  | channel src => exact channelAmount_eq hc h
  | node src => exact nodeAmount_eq hf hc h

end

end Sys2Proof.Machine
end

section
/-! PROOFS. The counters at a frame end (O26): each takes the frame's amount, and no other command reaches it. -/

namespace Sys2Proof.Machine

/-! ### The evaluation of a counter (R140 to R142) -/

theorem condition_iff {c : CounterControl} {a : Nat} : c.condition a = true ↔ Holds c a := by
  unfold CounterControl.condition Holds
  cases c.sense <;> simp

theorem Adds.eq_increment {c : Counter} {a inc : Nat} (h : Adds c.control c.previous a inc) : inc = c.increment a := by
  obtain ⟨hall, hone, hzero⟩ := h
  unfold Counter.increment
  by_cases ht : c.control.threshold = 0
  · simp [ht, hall ht]
  · have hcounts : (c.control.condition a && (!c.control.edge || !c.previous)) = true
        ↔ Holds c.control a ∧ (c.control.edge = false ∨ c.previous = false) := by simp [condition_iff]
    rw [if_neg (by simpa using ht)]
    exact Once.eq_once ⟨hone ht, hzero ht⟩ hcounts

theorem nextPrevious_eq {c : Counter} {a : Nat} : (c.control.threshold = 0 → c.nextPrevious a = c.previous)
    ∧ (c.control.threshold ≠ 0 → (c.nextPrevious a = true ↔ Holds c.control a)) := by
  unfold Counter.nextPrevious
  exact ⟨fun h => by simp [h], fun h => by rw [if_neg (by simpa using h), condition_iff]⟩

theorem CounterBank.evaluate_gate (b : CounterBank) : b.evaluate.gate = b.gate := by
  simp [CounterBank.evaluate]

theorem CounterBank.captured_gate (b : CounterBank) : b.captured.gate = b.gate := by
  simp [CounterBank.captured]

/-- The capture step leaves the gate, and clears a counter under clear-on-capture at most (R151). -/
theorem captureStep_counter (s : State) (n : FrameNumber) (c : Causes) (i : CounterIndex) :
    (s.captureStep n c).counters.gate = s.counters.gate
      ∧ ((s.captureStep n c).counters.bank[i] = s.counters.bank[i]
        ∨ (s.captureStep n c).counters.bank[i] = afterCapture s.counters.bank[i]) := by
  rcases s.captureStep_cases n c with ⟨-, h⟩ | ⟨-, -, h⟩ | ⟨-, -, h⟩ <;> rw [h]
  · exact ⟨rfl, .inl rfl⟩
  · rw [State.makeCapture_counters]
    exact ⟨s.counters.captured_gate, .inr (s.counters.captured_get i)⟩
  · exact ⟨rfl, .inl rfl⟩

theorem Closing.count_counter (w : Closing) (i : CounterIndex) : w.count.s.counters.gate = w.s.counters.gate
    ∧ (w.count.s.counters.bank[i] = w.s.counters.evaluate.bank[i]
      ∨ w.count.s.counters.bank[i] = afterCapture w.s.counters.evaluate.bank[i]) := by
  obtain ⟨hgate, hbank⟩ :=
    captureStep_counter { w.s with counters := w.s.counters.evaluate } w.frame.number (w.causes w.s.counters) i
  exact ⟨hgate.trans w.s.counters.evaluate_gate, hbank⟩

section
variable (s : State) (f : FrameInFlight) (e : FrameClose) (i : CounterIndex)

/-- The bank and the gate stand until the evaluation (R143). -/
theorem settled_counters :
    (Closing.settled f e s).s.counters.bank = s.counters.bank
      ∧ (Closing.settled f e s).s.counters.gate = s.counters.gate := by
  obtain ⟨-, -, -, -, -, -, -, hbank, hgate, -⟩ := Closing.begin_state f e s
  have hsame : (Closing.worked f e s).s.counters = (Closing.begin f e s).s.counters :=
    (Closing.worked_same f e s).counters
  rw [settled_eq_deliver]
  simp only [Closing.deliver, hsame, hbank, hgate, and_self]

/-- Counter `i` as the evaluation leaves it (R140). -/
theorem evaluated_settled : Evaluated s f e i (Closing.settled f e s).s.counters.evaluate.bank[i] := by
  obtain ⟨hbank, hgate⟩ := settled_counters s f e
  have hruns : (Closing.settled f e s).s.counters.evaluates i
      = (s.counters.gate && s.counters.bank[i].control.enable) := by
    rw [CounterBank.evaluates, hbank, hgate]
  rw [CounterBank.evaluate_get, hruns, hbank]
  refine ⟨?_, fun h => ?_, fun hf hg he a inc ha hinc => ?_⟩
  · split <;> rfl
  · exact if_neg (by rw [Bool.and_eq_true]; rintro ⟨hg, he⟩; rcases h with h | h <;> simp_all)
  · rw [if_pos (by rw [hg, he]; rfl), ← amount_eq hf ha, Adds.eq_increment hinc]
    obtain ⟨hstands, hmoves⟩ := nextPrevious_eq (c := s.counters.bank[i]) (a := a)
    exact ⟨BitVec.toNat_ofNat .., by simp [Counter.evaluate, Counter.wraps], hstands, hmoves⟩

/-- Evaluation and capture: counter `i` is evaluated, and a capture clears it at most (R143, R151). -/
theorem countedState_counter : (countedState f e s).counters.gate = s.counters.gate
    ∧ ((countedState f e s).counters.bank[i] = (Closing.settled f e s).s.counters.evaluate.bank[i]
      ∨ (countedState f e s).counters.bank[i]
        = afterCapture (Closing.settled f e s).s.counters.evaluate.bank[i]) := by
  obtain ⟨-, hgate⟩ := settled_counters s f e
  obtain ⟨l, o, n, hb⟩ := (Closing.settled f e s).beforeCapture_eq
  have hstands : (Closing.settled f e s).beforeCapture.s.counters = (Closing.settled f e s).s.counters := by rw [hb]
  obtain ⟨hkept, hcounted⟩ := (Closing.settled f e s).beforeCapture.count_counter i
  rw [hstands] at hkept hcounted
  exact ⟨hkept.trans hgate, hcounted⟩

end

/-! ### The commands that leave a counter alone (R144 to R150) -/

/-- A command leaves counter `i` and the gate alone: it is no NODE RESET, no GATE, no SET COUNTER of the counter, and no
CLEAR COUNTERS with its bit. -/
structure SparesCounter (n : CommandName) (r : Request) (i : CounterIndex) : Prop where
  reset : n ≠ .nodeReset
  gate : n ≠ .gate
  set : n = .setCounter → r.p0.toNat ≠ i.val
  clear : n = .clearCounters → r.p0.getLsbD i.val = false

theorem doSetCounter_spares {r : Request} {i : CounterIndex} (h : r.p0.toNat ≠ i.val) (s : State) :
    (doSetCounter r s).1.counters.gate = s.counters.gate
      ∧ (doSetCounter r s).1.counters.bank[i] = s.counters.bank[i] := by
  unfold doSetCounter
  split
  · next j c hj _ =>
    have hne : j.val ≠ i.val := fun hji => h ((counterOf_eq_some.1 hj).trans hji)
    exact ⟨rfl, by simp [State.putCounter, hne]⟩
  · exact ⟨rfl, rfl⟩

theorem doClearCounters_spares {r : Request} {i : CounterIndex} (h : r.p0.getLsbD i.val = false) (s : State) :
    (doClearCounters r s).1.counters.gate = s.counters.gate
      ∧ (doClearCounters r s).1.counters.bank[i] = s.counters.bank[i] := by
  simp [doClearCounters, h]

theorem doCommand_spares {n : CommandName} {r : Request} {i : CounterIndex} (h : SparesCounter n r i) (k : Capture)
    (s : State) : (doCommand n r k s).1.counters.gate = s.counters.gate
      ∧ (doCommand n r k s).1.counters.bank[i] = s.counters.bank[i] := by
  by_cases hset : n = .setCounter
  · subst hset
    exact doSetCounter_spares (h.set rfl) s
  · by_cases hclear : n = .clearCounters
    · subst hclear
      exact doClearCounters_spares (h.clear rfl) s
    · have hr := doCommand_reaches n r k s
      generalize (doCommand n r k s).1 = u at hr
      cases hr with
      | counters _ own b =>
        exact absurd own (by simp [hset, hclear, h.gate])
      | reset => exact absurd rfl h.reset
      | reads _ _ | address _ | parameter _ _ _ | map _ _ _ | snaps _ _ _ => exact ⟨rfl, rfl⟩

/-- No command but those of its own reaches a counter (R143). -/
theorem closeFrame_counter {s : State} {i : CounterIndex} (h : LeavesCounter s i) (f : FrameInFlight) (e : FrameClose) :
    (closeFrame f e s).s.counters.gate = (countedState f e s).counters.gate
      ∧ (closeFrame f e s).s.counters.bank[i] = (countedState f e s).counters.bank[i] := by
  rw [closeFrame_eq_run]
  cases ht : (Closing.settled f e s).taking with
  | nothing => exact ⟨rfl, rfl⟩
  | turned r t =>
    obtain ⟨x, hx⟩ := (countedState f e s).answer_eq r
      (.unsent { seq := r.seq, tag := r.tag, status := t.1, data := t.2 })
    rw [Taking.run, hx]
    exact ⟨rfl, rfl⟩
  | accepted r n =>
    obtain ⟨hheld, -, hcls, hname, -⟩ := accepts_of_settled ht
    obtain ⟨hreset, hgate, hset, hclear⟩ := h r hheld hcls
    have hspares : SparesCounter n r i :=
      ⟨fun hn => hreset (hn ▸ hname), fun hn => hgate (hn ▸ hname), fun hn => hset (hn ▸ hname),
        fun hn => hclear (hn ▸ hname)⟩
    obtain ⟨x, hx⟩ := (doCommand n r (Closing.settled f e s).capture (countedState f e s)).1.answer_eq r
      (okAnswer n r (doCommand n r (Closing.settled f e s).capture (countedState f e s)).2)
    rw [Taking.run, hx]
    exact doCommand_spares hspares (Closing.settled f e s).capture (countedState f e s)

/-- Settles O26: the counter is evaluated with the amount of its source, and a capture alone can follow. -/
theorem countersTakeTheFrame : Obligations.CountersTakeTheFrame := by
  unfold Obligations.CountersTakeTheFrame
  intro s f e i hend hleaves
  obtain ⟨hgate, hbank⟩ := closeFrame_counter hleaves f e
  obtain ⟨hgate', hcounted⟩ := countedState_counter s f e i
  have hev := evaluated_settled s f e i
  refine ⟨_, exec_frameEnd_eq e hend, hgate.trans hgate', ⟨_, hev, by rwa [hbank]⟩, fun hc => ?_⟩
  have hkept : afterCapture (Closing.settled f e s).s.counters.evaluate.bank[i]
      = (Closing.settled f e s).s.counters.evaluate.bank[i] := by
    rw [afterCapture, hev.control, hc]
    rfl
  rw [hkept, or_self] at hcounted
  rw [hbank, hcounted]
  exact hev

end Sys2Proof.Machine
end

section
/-! PROOFS. One slot in flight: the staged taps, the reads of the input channels, the running copy and the counted
events (O13, O14). -/

namespace Sys2Proof.Machine

/-! ### The running copy (R64) -/

section
variable {m : MapStore} {src : Bank} (i : SlotNumber)

theorem MapStore.copyEntry_idle (h : m.copy = none) : m.copyEntry i = m := by
  simp [MapStore.copyEntry, h]

theorem MapStore.copyEntry_running (h : m.copy = some src) :
    m.copyEntry i = m.setBank src.other ((m.bank src.other).set i (m.bank src)[i]) := by
  simp [MapStore.copyEntry, h]

@[simp] theorem MapStore.copyEntry_commit (m : MapStore) : (m.copyEntry i).commit = m.commit := by
  unfold MapStore.copyEntry
  split <;> simp

@[simp] theorem MapStore.copyEntry_copy (m : MapStore) : (m.copyEntry i).copy = m.copy := by
  unfold MapStore.copyEntry
  split <;> simp

@[simp] theorem MapStore.copyEntry_resetDue (m : MapStore) : (m.copyEntry i).resetDue = m.resetDue := by
  unfold MapStore.copyEntry
  split <;> simp

/-- The source bank of a copy stands. -/
theorem MapStore.copyEntry_source (h : m.copy = some src) : (m.copyEntry i).bank src = m.bank src := by
  rw [MapStore.copyEntry_running i h, MapStore.bank_setBank_other]

/-- The other bank takes the slot's entry, and keeps every other. -/
theorem MapStore.copyEntry_other (h : m.copy = some src) (j : SlotNumber) :
    ((m.copyEntry i).bank src.other)[j] = if j = i then (m.bank src)[i] else (m.bank src.other)[j] := by
  rw [MapStore.copyEntry_running i h, MapStore.bank_setBank]
  by_cases hj : j = i
  · subst hj
    simp
  · have hne : i.val ≠ j.val := fun hv => hj (Fin.ext hv.symm)
    simp [hj, hne]

end

/-! ### What the grooming of a slot stages and reads (R43, R44, R46, R47) -/

section
variable {m : MapEntry} {a : Address} {c : InputState} {st : Sample} {x : Word}

theorem MapEntry.taps_iff : m.taps = true ↔ m.action = .tap ∨ m.action = .drain := by
  simp [MapEntry.taps]

theorem emptyIn_iff : emptyIn x = true ↔ x = 0 := by
  simp [emptyIn, emptySlot]

theorem freshIn_iff : freshIn x = true ↔ x.getLsbD 31 = true ∧ x.getLsbD 30 = false := by
  simp [freshIn, slotValid, slotStale]

/-- Whatever the input channel holds, an insertion reads it and stages nothing. -/
theorem insertGrooming_reads (done : SlotSource) :
    (insertGrooming done a c).reads = true ∧ (insertGrooming done a c).staged = none := by
  cases c <;> exact ⟨rfl, rfl⟩

/-- A TAP or DRAIN of a fresh sample stages its value, and nothing else stages one (R46, R47). -/
theorem groom_staged : (groom m a c st x).staged = if m.taps && freshIn x then some (slotValue x) else none := by
  unfold groom MapEntry.taps
  cases m.action with
  | pass | clear | status => rfl
  | insert => exact (insertGrooming_reads _).2
  | fill =>
    dsimp only
    split
    · exact (insertGrooming_reads _).2
    · rfl
  | tap | drain => rfl

/-- An INSERT, and a FILL of an empty slot, read the input channel, and nothing else does (R43, R44, R78). -/
theorem groom_reads : (groom m a c st x).reads = true ↔ m.action = .insert ∨ (m.action = .fill ∧ x = 0) := by
  unfold groom
  cases m.action with
  | pass | clear | status | tap | drain => simp
  | insert => simp [insertGrooming_reads]
  | fill =>
    rw [← emptyIn_iff]
    by_cases hx : emptyIn x = true <;> simp [hx, insertGrooming_reads]

end

/-! ### The Slot Engine and the channels after a slot -/

@[simp] theorem SlotEngine.countIf_staged (e : SlotEngine) (b : Bool) (src : SlotSource) (cls : MonitorClass) :
    (e.countIf b src cls).staged = e.staged := by
  cases b <;> rfl

/-- The staged taps after a slot: the value its grooming stages joins them, with the entry's channel and class. -/
theorem SlotEngine.take_staged (e : SlotEngine) (m : MapEntry) (x : Word) (g : Grooming) :
    (e.take m x g).staged = e.staged
      ++ (g.staged.map fun v => { channel := m.channel, value := v, cls := m.cls : TapRecord }).toList := by
  unfold SlotEngine.take
  cases g.event <;> cases g.staged <;> simp [SlotEngine.count]

section
variable (s : State) (f : FrameInFlight) (i : SlotNumber) (w : Word)

theorem State.slotPasses_staged : (s.slotPasses f i w).slots.staged = s.slots.staged
    ++ if ((s.map.bank f.bank)[i].taps && freshIn (f.inboundSlot w)) = true then
        [{ channel := (s.map.bank f.bank)[i].channel, value := slotValue (f.inboundSlot w)
           cls := (s.map.bank f.bank)[i].cls : TapRecord }]
      else [] := by
  simp only [State.slotPasses, State.passWords_slots, SlotEngine.take_staged, State.grooming, groom_staged]
  split <;> rfl

/-- A read marks the sample of the entry's channel, and every other channel stands (R78). -/
theorem State.slotPasses_input (c : Channel) : (s.slotPasses f i w).inputs[c] =
    if (s.grooming f i w).reads = true ∧ c = (s.map.bank f.bank)[i].channel then
      { s.inputs[c] with state := s.inputs[c].state.read }
    else s.inputs[c] := by
  simp only [State.slotPasses, State.passWords_inputs]
  by_cases hr : (s.grooming f i w).reads = true
  · by_cases hc : c = (s.map.bank f.bank)[i].channel
    · subst hc
      simp [hr]
    · have hne : (s.map.bank f.bank)[i].channel.val ≠ c.val := fun hv => hc (Fin.ext hv.symm)
      simp only [hr, if_true, hc, and_false, if_false]
      exact Vector.getElem_set_ne _ _ hne
  · simp [hr]

end

theorem InputState.read_of_not_fresh {c : InputState} (h : ∀ v mark, c ≠ .fresh v mark) : c.read = c := by
  cases c with
  | fresh v mark => exact absurd rfl (h v mark)
  | never | used v => rfl

/-- Settles O13: what the grooming stages and reads is read off action by action, and the copy is the map's own. -/
theorem slotReadsStagesAndCopies : Obligations.SlotReadsStagesAndCopies := by
  unfold Obligations.SlotReadsStagesAndCopies
  intro s f i w x m hup hf hi hx hm
  obtain rfl : x = f.inboundSlot w := hx
  subst hm
  have hreads : (s.grooming f i w).reads = true ↔ (s.map.bank f.bank)[i].action = .insert
      ∨ ((s.map.bank f.bank)[i].action = .fill ∧ f.inboundSlot w = 0) := groom_reads
  have hstages : ((s.map.bank f.bank)[i].taps && freshIn (f.inboundSlot w)) = true
      ↔ ((s.map.bank f.bank)[i].action = .tap ∨ (s.map.bank f.bank)[i].action = .drain)
        ∧ (f.inboundSlot w).getLsbD 31 = true ∧ (f.inboundSlot w).getLsbD 30 = false := by
    rw [Bool.and_eq_true, MapEntry.taps_iff, freshIn_iff]
  have hmap : (s.slotPasses f i w).map = s.map.copyEntry i := rfl
  refine ⟨s.slotPasses f i w, exec_slotInFlight_eq w hup hf hi, fun h => ?_, fun h => ?_, fun v mark hv h => ?_,
    fun c h => ?_, fun c => ?_, fun hc => ?_, fun src hc => ⟨?_, ?_, fun j hj => ?_, ?_, ?_, ?_⟩⟩
  · rw [State.slotPasses_staged, if_pos (hstages.2 h)]
    rfl
  · rw [State.slotPasses_staged, if_neg (mt hstages.1 h), List.append_nil]
  · rw [State.slotPasses_input, if_pos ⟨hreads.2 h, rfl⟩, hv]
    rfl
  · rw [State.slotPasses_input]
    split
    · next hr =>
      obtain ⟨hr, rfl⟩ := hr
      rw [InputState.read_of_not_fresh fun v mark hv => h ⟨v, mark, hv⟩ rfl (hreads.1 hr)]
    · rfl
  · rw [State.slotPasses_input]
    split <;> exact ⟨rfl, rfl⟩
  · rw [hmap, MapStore.copyEntry_idle i hc]
  · rw [hmap, MapStore.copyEntry_source i hc]
  · rw [hmap, MapStore.copyEntry_other i hc, if_pos rfl]
  · rw [hmap, MapStore.copyEntry_other i hc, if_neg hj]
  · rw [hmap, MapStore.copyEntry_active]
  · rw [hmap, MapStore.copyEntry_commit]
  · rw [hmap, MapStore.copyEntry_copy]

/-! ### The counted events (R40, R49) -/

theorem SlotSource.row_injective : Function.Injective SlotSource.row := by
  intro src src' h
  revert h
  cases src <;> cases src' <;> decide

theorem SlotEngine.count_amount (e : SlotEngine) (src x : SlotSource) (cls k : MonitorClass) :
    (e.count src cls).amounts[x.row][k] = e.amounts[x.row][k] + once (src == x && k == cls) := by
  simp only [SlotEngine.count, AmountTable.get_add, SlotSource.row_injective.eq_iff]
  by_cases hx : x = src
  · by_cases hk : k = cls <;> simp [hx, hk, once]
  · simp [hx, Ne.symm hx, once]

theorem SlotEngine.countIf_amount (e : SlotEngine) (b : Bool) (src x : SlotSource) (cls k : MonitorClass) :
    (e.countIf b src cls).amounts[x.row][k] = e.amounts[x.row][k] + once (b && (src == x && k == cls)) := by
  cases b
  · rfl
  · exact e.count_amount src x cls k

/-- What the inbound checks of a slot count of a source (R40). -/
def arrivalCount (m : MapEntry) (x : Word) : SlotSource → Nat
  | .emptyIn => once (emptyIn x)
  | .staleIn => once (staleIn x)
  | .foreign => once (foreignIn m x)
  | .inserted | .filled | .fillSkipped | .tapped | .cleared => 0

/-- An amount after a slot: what the inbound checks and the action count, under the entry's class (R49). -/
theorem SlotEngine.take_amount (e : SlotEngine) (m : MapEntry) (x : Word) (g : Grooming) (src : SlotSource)
    (cls : MonitorClass) : (e.take m x g).amounts[src.row][cls] = e.amounts[src.row][cls]
      + if cls = m.cls then arrivalCount m x src + once (g.event == some src) else 0 := by
  have hstaged : (e.take m x g).amounts = (e.take m x { g with staged := none }).amounts := by
    unfold SlotEngine.take
    cases g.staged <;> rfl
  have hevent : (e.take m x { g with staged := none }).amounts[src.row][cls]
      = (((e.countIf (emptyIn x) .emptyIn m.cls).countIf (staleIn x) .staleIn m.cls).countIf
          (foreignIn m x) .foreign m.cls).amounts[src.row][cls] + once (g.event == some src && cls == m.cls) := by
    unfold SlotEngine.take
    cases g.event with
    | none => rfl
    | some y => exact SlotEngine.count_amount ..
  rw [hstaged, hevent]
  simp only [SlotEngine.countIf_amount]
  by_cases hk : cls = m.cls
  · cases src <;> simp [arrivalCount, hk, once, Nat.add_assoc]
  · simp [hk, once]

section
variable {m : MapEntry} {a : Address} {c : InputState} {st : Sample} {x : Word}

theorem insertGrooming_event (done : SlotSource) :
    (insertGrooming done a c).event = some (if c = .never then .cleared else done) := by
  cases c <;> simp [insertGrooming]

/-- The event that an action counts is the action's own (R42 to R48). -/
theorem groom_event_iff {src : SlotSource} : (groom m a c st x).event = some src ↔
    (src ≠ .emptyIn ∧ src ≠ .staleIn ∧ src ≠ .foreign) ∧ SlotEvent m c x src := by
  unfold groom
  cases hm : m.action with
  | pass | tap | status => cases src <;> simp [SlotEvent, hm]
  | clear | drain => cases src <;> simp [SlotEvent, hm]
  | insert =>
    by_cases hc : c = .never <;> cases src <;> simp [SlotEvent, hm, hc, insertGrooming_event]
  | fill =>
    by_cases hx : x = 0
    · rw [if_pos (emptyIn_iff.2 hx)]
      by_cases hc : c = .never <;> cases src <;> simp [SlotEvent, hm, hx, hc, insertGrooming_event]
    · have hword : x ≠ 0#32 := hx
      rw [if_neg (mt emptyIn_iff.1 hx)]
      cases src <;> simp [SlotEvent, hm, hword]

/-- Each slot event that comes about is counted once, by the inbound checks or by the action (R40 to R48). -/
theorem slotEvent_countedOnce (src : SlotSource) : Once (SlotEvent m c x src)
    (arrivalCount m x src + once ((groom m a c st x).event == some src)) := by
  have byAction : (groom m a c st x).event = some src ↔ _ := groom_event_iff
  have byCheck : ∀ {b : Bool}, (b = true ↔ SlotEvent m c x src) → Once (SlotEvent m c x src) (once b) := by
    intro b hb
    rw [← hb]
    cases b <;> simp [Once, once]
  cases src with
  | emptyIn =>
    have hne : ((groom m a c st x).event == some .emptyIn) = false := by simp [byAction]
    rw [hne]
    exact byCheck emptyIn_iff
  | staleIn =>
    have hne : ((groom m a c st x).event == some .staleIn) = false := by simp [byAction]
    rw [hne]
    exact byCheck (by simp [staleIn, slotValid, slotStale, SlotEvent])
  | foreign =>
    have hne : ((groom m a c st x).event == some .foreign) = false := by simp [byAction]
    rw [hne]
    exact byCheck (by simp [foreignIn, slotValid, slotSource, SlotEvent, and_assoc])
  | inserted | filled | fillSkipped | tapped | cleared =>
    rw [arrivalCount, Nat.zero_add]
    exact byCheck (by rw [beq_iff_eq, byAction]; simp)

end

/-- Settles O14: of each source the slot counts its event, once, under the class of its entry. -/
theorem slotEventsAreCountedByClass : Obligations.SlotEventsAreCountedByClass := by
  unfold Obligations.SlotEventsAreCountedByClass
  intro s f i w x m hup hf hi hx hm
  obtain rfl : x = f.inboundSlot w := hx
  subst hm
  refine ⟨s.slotPasses f i w, exec_slotInFlight_eq w hup hf hi, fun src cls => ?_⟩
  obtain ⟨hcounted, hnot⟩ := slotEvent_countedOnce (m := (s.map.bank f.bank)[i]) (a := s.cmd.address)
    (c := s.inputs[(s.map.bank f.bank)[i].channel].state) (st := s.statusWord) (x := f.inboundSlot w) src
  have hamount : (s.slotPasses f i w).slots.amounts[src.row][cls] = _ :=
    SlotEngine.take_amount s.slots (s.map.bank f.bank)[i] (f.inboundSlot w) (s.grooming f i w) src cls
  rw [State.grooming] at hamount
  refine ⟨fun h => ?_, fun h => ?_⟩ <;> rw [hamount]
  · rw [if_pos h.1, hcounted h.2]
  · split
    · next hc => rw [hnot fun he => h ⟨hc, he⟩, Nat.add_zero]
    · rfl

end Sys2Proof.Machine
end

section
/-! PROOFS. The Sample Channels at a frame end without a command (O20): its own work alone reaches them. -/

namespace Sys2Proof.Machine

/-! ### The Command Unit through the works without the command -/

/-- Of the Command Unit a work other than the command reaches the response record at most (R65, R120). -/
theorem Closing.item_cmd (w : Closing) {i : EndItem} (h : i ≠ .command) :
    ∃ x, (w.item i).s.cmd = { w.s.cmd with response := x } := by
  by_cases hd : i = .delivery
  · subst hd
    show ∃ x, (w.s.settleItem w.outcome.delivers).cmd = _
    unfold State.settleItem
    split
    · exact ⟨_, rfl⟩
    · exact ⟨_, rfl⟩
    · split
      · split <;> exact ⟨_, rfl⟩
      all_goals exact ⟨_, rfl⟩
  · by_cases hc : i = .copyCompletion
    · subst hc
      exact ⟨_, w.copyCompletion_eq.1⟩
    · exact ⟨_, (w.item_bystander hd hc h).1⟩

theorem Closing.meet_cmd (w : Closing) {items : List EndItem} (h : EndItem.command ∉ items) :
    ∃ x, (w.meet items).s.cmd = { w.s.cmd with response := x } := by
  unfold Closing.meet
  induction items generalizing w with
  | nil => exact ⟨_, rfl⟩
  | cons i rest ih =>
    obtain ⟨hi, hrest⟩ := List.ne_and_not_mem_of_not_mem_cons h
    obtain ⟨x, hx⟩ := w.item_cmd hi.symm
    obtain ⟨y, hy⟩ := ih (w.item i) hrest
    exact ⟨y, by rw [List.foldl_cons, hy, hx]⟩

/-! ### A frame end without a command (R93, R96) -/

section
variable {s : State} {f : FrameInFlight} {e : FrameClose}

theorem NoCommand.command_eq (h : NoCommand s) :
    (Closing.beforeCommand f e s).command = Closing.beforeCommand f e s := by
  have hheld : (Closing.beforeCommand f e s).s.cmd.inFlight = s.cmd.inFlight :=
    congrArg CommandMarks.held (Closing.beforeCommand_marks f e s)
  refine Closing.command_quiet ?_
  unfold NoCommand
  rw [hheld]
  exact h

/-- It is its works, and then the counting. -/
theorem NoCommand.closeFrame_eq (h : NoCommand s) :
    (closeFrame f e s).s = (Closing.settled f e s).count.s := by
  have htaking : (Closing.settled f e s).taking = .nothing := by
    rw [settled_taking, h.command_eq]
    exact congrArg CommandMarks.taking (Closing.beforeCommand_marks f e s)
  rw [closeFrame_idle rfl (htaking ▸ Taking.idle_nothing), htaking]
  rfl

/-- The parameters stand, and so do the channels after their own work. -/
theorem NoCommand.closeFrame_channels (h : NoCommand s) :
    (closeFrame f e s).s.cmd.params = s.cmd.params
      ∧ (closeFrame f e s).s.inputs = (Closing.begin f e s).s.inputs
      ∧ (closeFrame f e s).s.outputs = (Closing.begin f e s).s.outputs := by
  obtain ⟨-, -, -, -, -, hin, hout, hcmd, -⟩ := Closing.count_state (Closing.settled f e s)
  have hsame := Closing.worked_same f e s
  obtain ⟨after, ha, hw⟩ := worked_split f e s
  obtain ⟨-, -, hb, -⟩ := endItems_split e
  obtain ⟨x, hx⟩ := (Closing.begin f e s).meet_cmd hb
  obtain ⟨y, hy⟩ := (Closing.beforeCommand f e s).meet_cmd ha
  rw [h.command_eq] at hw
  rw [h.closeFrame_eq, hin, hout, hcmd]
  refine ⟨?_, hsame.inputs, hsame.outputs⟩
  show (Closing.worked f e s).s.cmd.params = _
  rw [hw, hy]
  show ((Closing.begin f e s).meet _).s.cmd.params = _
  rw [hx, Closing.begin_cmd]

end

/-! ### The value a channel takes (R50, R84) -/

section
variable {taps : List TapRecord} {c : Channel}

theorem tapFor_eq_none (h : ∀ t ∈ taps, t.channel ≠ c) : tapFor taps c = none := by
  rw [← Option.not_isSome_iff_eq_none, tapFor_isSome]
  rintro ⟨t, ht, hc⟩
  exact h t ht hc

/-- Where no two records name one channel, the record that names it decides it. -/
theorem tapFor_eq_some (hn : (taps.map TapRecord.channel).Nodup) {t : TapRecord} (ht : t ∈ taps) :
    tapFor taps t.channel = some t.value := by
  unfold tapFor
  cases hl : (taps.filter fun x => x.channel == t.channel).getLast? with
  | none =>
    rw [List.getLast?_eq_none_iff, List.filter_eq_nil_iff] at hl
    exact absurd (beq_self_eq_true t.channel) (hl t ht)
  | some x =>
    obtain ⟨hx, hc⟩ := List.mem_filter.1 (List.mem_of_getLast? hl)
    rw [List.inj_on_of_nodup_map hn hx ht (beq_iff_eq.1 hc)]
    rfl

end

/-! ### The output channels (R84, R85) -/

/-- An output channel meets the record handed over for it (R50, R84). -/
theorem begin_output (f : FrameInFlight) (e : FrameClose) (s : State) (c : Channel) :
    (Closing.begin f e s).s.outputs[c]
      = s.outputs[c].frameEnd (tapFor (handedTaps f e s) c) s.cmd.params.holdLimit[c] :=
  (Closing.begin_channels f e s c).2

section
variable {o : OutputChannel} {l : Nat}

theorem OutputChannel.frameEnd_taken (h : o ≠ .unassigned) (v : Sample) : o.frameEnd (some v) l = .live v 0 := by
  cases o with
  | unassigned => exact absurd rfl h
  | safe | live _ _ => rfl

/-- A LIVE channel without a new value expires under a limit that its age reaches, and otherwise ages (R85). -/
theorem OutputChannel.frameEnd_live (v : Sample) (age : Nat) : (OutputChannel.live v age).frameEnd none l =
    if l ≠ 0 ∧ l ≤ min 255 (age + 1) then .safe else .live v (min 255 (age + 1)) := by
  simp [OutputChannel.frameEnd, OutputChannel.expires]

end

/-- Settles O20: without a command a frame end leaves each channel as its own work makes it. -/
theorem channelsAtTheFrameEnd : Obligations.ChannelsAtTheFrameEnd := by
  unfold Obligations.ChannelsAtTheFrameEnd
  intro s f e hend hno hdistinct
  obtain ⟨hparams, hinputs, houtputs⟩ := hno.closeFrame_channels (f := f) (e := e)
  refine ⟨_, exec_frameEnd_eq e hend, fun c => ?_⟩
  obtain ⟨hin, -⟩ := Closing.begin_channels f e s c
  have hout := begin_output f e s c
  rw [hinputs, houtputs, hparams, hin, hout]
  refine ⟨fun v hv => ?_, fun hv => ?_, rfl, rfl, fun ho => ?_, fun t ht hc hg ho => ?_, fun hnot => ?_, rfl⟩
  · rw [InputChannel.frameEnd, hv]
    rfl
  · unfold InputChannel.frameEnd InputState.settle
    dsimp only
    split <;> simp_all
  · rw [ho]
    rfl
  · subst hc
    have hhanded : handedTaps f e s = s.slots.staged := by simp [handedTaps, outcome_good_iff.2 hg]
    rw [hhanded, tapFor_eq_some hdistinct ht, OutputChannel.frameEnd_taken ho]
  · have hnone : tapFor (handedTaps f e s) c = none := by
      refine tapFor_eq_none fun t ht => ?_
      rw [handedTaps] at ht
      split at ht
      · next hg => exact hnot.resolve_right (fun hb => hb (outcome_good_iff.1 (beq_iff_eq.1 hg))) t ht
      · simp at ht
    rw [hnone]
    refine ⟨fun ho => by rw [ho]; rfl, fun v age ho => ?_⟩
    rw [ho, OutputChannel.frameEnd_live]
    exact ⟨fun h0 hl => if_pos ⟨h0, hl⟩, fun h => if_neg fun ⟨h0, hl⟩ => h.elim h0 (Nat.not_lt.2 hl)⟩

end Sys2Proof.Machine
end

section
/-! SUPPORT. The Map Store through a frame end (R55, R59, R63, R65, R69, R72): no work that may meet reaches it but for
the running copy, which is over after them, and of the commands five reach it. -/

namespace Sys2Proof.Machine

/-! ### The works that may meet -/

theorem meetCommand_map (n : CommandName) (r : Request) (b : Bool) (s : State) :
    (meetCommand n r b s).map = s.map ∨ (meetCommand n r b s).map = { s.map with copy := none } := by
  cases n
  case nodeReset =>
    unfold meetCommand
    dsimp only
    split
    · exact .inr rfl
    · exact .inl rfl
  case setParameter =>
    obtain ⟨p, k, h⟩ := meetParameter_eq r b s
    exact .inl (by rw [meetCommand, h])
  all_goals exact .inl rfl

theorem State.settleItem_map (s : State) (d : Bool) : (s.settleItem d).map = s.map := by
  unfold State.settleItem
  split
  · rfl
  · rfl
  · split
    · split <;> rfl
    all_goals rfl

/-- A work leaves the map as it stands, or ends the running copy. -/
theorem Closing.item_map (w : Closing) (i : EndItem) :
    (w.item i).s.map = w.s.map ∨ (w.item i).s.map = { w.s.map with copy := none } := by
  cases i with
  | delivery => exact .inl (State.settleItem_map ..)
  | copyCompletion => exact .inr w.copyCompletion_eq.2.2
  | command =>
    show w.command.s.map = _ ∨ w.command.s.map = _
    have hc := w.command_commanded
    generalize w.command = v at hc
    cases hc with
    | marks m _ => exact .inl rfl
    | resent => exact .inl rfl
    | accepted r n q _ => exact meetCommand_map n r _ _
  | resend | jumpRaise | expiryRaise =>
    exact .inl (w.item_bystander (by decide) (by decide) (by decide)).2.2

theorem Closing.meet_map (w : Closing) (items : List EndItem) :
    (w.meet items).s.map = w.s.map ∨ (w.meet items).s.map = { w.s.map with copy := none } := by
  unfold Closing.meet
  induction items generalizing w with
  | nil => exact .inl rfl
  | cons i rest ih =>
    rw [List.foldl_cons]
    rcases ih (w.item i) with h | h <;> rw [h] <;> rcases w.item_map i with hi | hi <;> rw [hi] <;> simp

/-- Where the copy's completion is among the works, none runs after them. -/
theorem Closing.meet_copy (w : Closing) {items : List EndItem} (h : EndItem.copyCompletion ∈ items) :
    (w.meet items).s.map = { w.s.map with copy := none } := by
  obtain ⟨before, after, rfl⟩ := List.append_of_mem h
  rw [Closing.meet_append]
  show ((w.meet before).copyCompletion.meet after).s.map = _
  have hdone := (w.meet before).copyCompletion_eq.2.2
  rcases (w.meet before).copyCompletion.meet_map after with hm | hm <;> rw [hm, hdone] <;>
    rcases w.meet_map before with hb | hb <;> rw [hb]

section
variable (f : FrameInFlight) (e : FrameClose) (s : State)

/-- As the command meets the map, the running copy alone can be over. -/
theorem metByCommand_map :
    (metByCommand s f e).map = s.map ∨ (metByCommand s f e).map = { s.map with copy := none } := by
  unfold metByCommand
  have h := (Closing.begin f e s).meet_map ((endItems e).takeWhile (· != .command))
  rwa [Closing.begin_map] at h

theorem metByCommand_address : (metByCommand s f e).cmd.address = s.cmd.address :=
  ((Closing.begin f e s).meet_same _).address.trans (by rw [Closing.begin_cmd])

/-- The map when the frame end has been counted: nothing but the running copy is gone. -/
theorem countedState_map : (countedState f e s).map = { s.map with copy := none } := by
  obtain ⟨l, -, -, hmap, -⟩ := countedState_eq f e s
  rw [hmap, Closing.worked, Closing.meet_copy _ (mem_endItems e .copyCompletion), Closing.begin_map]

theorem countedState_address : (countedState f e s).cmd.address = s.cmd.address := by
  obtain ⟨l, hcmd, -⟩ := countedState_eq f e s
  rw [hcmd]
  exact (Closing.worked_same f e s).address.trans (by rw [Closing.begin_cmd])

end

/-! ### The command that a frame end accepts (R96 to R98, R102) -/

/-- The end of frame `f` accepts command `n` with request `r`: it is the one in flight, for this node, it passes its
checks on the node that it meets, and as a broadcast its code is accepted. -/
structure AcceptsAt (s : State) (f : FrameInFlight) (e : FrameClose) (r : Request) (n : CommandName) : Prop where
  held : s.cmd.inFlight = some r
  name : r.name = some n
  cls : r.cls ≠ .none
  passes : checkCommand n r (metByCommand s f e) = none
  broadcast : r.cls = .broadcast → acceptsBroadcast n = true

section
variable {f : FrameInFlight} {e : FrameClose} {s : State} {r : Request} {n : CommandName}

/-- A broadcast of a code that is not accepted is not executed (R98). -/
theorem Closing.takeBroadcast_taking {w : Closing} (hr : r.name = some n) (h : acceptsBroadcast n = false) :
    (w.takeBroadcast r).taking = w.taking := by
  unfold Closing.takeBroadcast
  split
  · rfl
  · rw [hr]
    simp [h]

theorem acceptsAt_of_settled (h : (Closing.settled f e s).taking = .accepted r n) : AcceptsAt s f e r n := by
  obtain ⟨hheld, hgood, hcls, hname, -⟩ := accepts_of_settled h
  have hidle : (Closing.beforeCommand f e s).taking = .nothing :=
    congrArg CommandMarks.taking (Closing.beforeCommand_marks f e s)
  rw [settled_taking] at h
  refine ⟨hheld, hname, hcls, ?_, fun hb => ?_⟩
  · have hc := (Closing.beforeCommand f e s).command_commanded
    generalize (Closing.beforeCommand f e s).command = v at h hc
    cases hc with
    | marks m ht =>
      rcases ht with ht | ⟨r', t, ht⟩
      · cases h.symm.trans (ht.trans hidle)
      · cases h.symm.trans ht
    | resent => cases h.symm.trans hidle
    | accepted r' n' q ha =>
      cases h
      exact (checkCommand_broadcastSeq n r (metByCommand s f e) q).symm.trans ha.passes
  · have htaken := takenRequest_beforeCommand.2 ⟨outcome_good_iff.1 hgood, hheld, hcls⟩
    rw [(Closing.command_taken htaken).2 hb] at h
    by_contra hn
    rw [Closing.takeBroadcast_taking hname (by simpa using hn)] at h
    cases h.symm.trans hidle

/-- A command that is not accepted as a broadcast was sent to the node itself. -/
theorem AcceptsAt.own (h : AcceptsAt s f e r n) (hn : acceptsBroadcast n = false) :
    r.cls = .unicast ∨ r.cls = .firstUnaddressed := by
  have hcls := h.cls
  have hbroadcast := h.broadcast
  cases hc : r.cls <;> simp_all

/-! ### What a command makes of the map -/

/-- `MapCommand m n m'`: command `n` takes the map from `m` to `m'` (R59, R63, R69, R72, R109). -/
inductive MapCommand (m : MapStore) : CommandName → MapStore → Prop
  | stands (n : CommandName) (other : n ∉ [.nodeReset, .copyActive, .commit]) : MapCommand m n m
  | writes (v : MapBank) : MapCommand m .writeEntries (m.setBank m.active.other v)
  | copies : MapCommand m .copyActive { m with copy := some m.active }
  | arms (F : FrameNumber) : MapCommand m .commit { m with commit := some F }
  | disarms : MapCommand m .cancelCommit { m with commit := none }
  | resets : MapCommand m .nodeReset m.nodeReset

theorem doCommand_mapCommand (n : CommandName) (r : Request) (k : Capture) (s : State) :
    MapCommand s.map n (doCommand n r k s).1.map := by
  by_cases hown : n ∈ [.writeEntries, .copyActive, .commit, .cancelCommit]
  · simp only [List.mem_cons, List.not_mem_nil, or_false] at hown
    rcases hown with rfl | rfl | rfl | rfl
    · unfold doCommand doWriteEntries
      dsimp only
      split
      · exact .writes _
      · exact .stands _ (by decide)
    · exact .copies
    · exact .arms _
    · exact .disarms
  · by_cases hreset : n = .nodeReset
    · subst hreset
      exact .resets
    · have hstands : (doCommand n r k s).1.map = s.map := by
        have hr := doCommand_reaches n r k s
        generalize (doCommand n r k s).1 = u at hr
        cases hr with
        | map _ own _ => exact absurd own hown
        | reset => exact absurd rfl hreset
        | reads _ _ | address _ | parameter _ _ _ | counters _ _ _ | snaps _ _ _ => rfl
      rw [hstands]
      exact .stands n (by simp_all)

/-! ### The whole frame end -/

/-- What a frame end makes of the map: the running copy is over, and the command accepted may have acted. -/
inductive MapEnd (s : State) (f : FrameInFlight) (e : FrameClose) (t : State) : Prop
  /-- no command reached the map -/
  | stands (now : t.map = { s.map with copy := none })
  /-- WRITE ENTRIES reached the shadow bank, with no commit armed (R59) -/
  | written (r : Request) (accepts : AcceptsAt s f e r .writeEntries) (idle : s.map.commit = none) (v : MapBank)
      (now : t.map = { s.map with copy := none }.setBank s.map.active.other v)
  /-- COPY ACTIVE began a copy, with no commit armed, and is answered when it ends (R63) -/
  | copying (r : Request) (accepts : AcceptsAt s f e r .copyActive) (idle : s.map.commit = none)
      (answer : t.cmd.response = .pending r.seq r.tag)
      (now : t.map = { s.map with copy := some s.map.active })
  /-- COMMIT armed a shadow bank free of conflict, at a node with an address (R68, R69) -/
  | armed (free : ConflictFree s.map.shadow) (addressed : s.cmd.address ≠ 0) (F : FrameNumber)
      (now : t.map = { s.map with copy := none, commit := some F })
  /-- CANCEL COMMIT (R72) -/
  | disarmed (now : t.map = { s.map with copy := none, commit := none })
  /-- NODE RESET (R55) -/
  | reset (now : t.map = s.map.nodeReset)

/-- No work before the command reaches the commit state, the designation or the banks. -/
theorem metByCommand_commit (f : FrameInFlight) (e : FrameClose) (s : State) :
    (metByCommand s f e).map.commit = s.map.commit ∧ (metByCommand s f e).map.shadow = s.map.shadow := by
  rcases metByCommand_map f e s with h | h <;> rw [h]
  · exact ⟨rfl, rfl⟩
  · exact ⟨rfl, by unfold MapStore.shadow; cases s.map.active <;> rfl⟩

theorem checkWriteEntries_idle {t : State} (h : checkWriteEntries r t = none) : t.map.commit = none := by
  simp only [checkWriteEntries, require_eq_none, Option.isNone_iff_eq_none] at h
  obtain ⟨-, -, -, hc, -⟩ := h
  exact hc

theorem checkCopyActive_idle {t : State} (h : checkCopyActive r t = none) : t.map.commit = none := by
  simp only [checkCopyActive, require_eq_none, Option.isNone_iff_eq_none] at h
  obtain ⟨-, hc, -⟩ := h
  exact hc

/-- COMMIT passes its checks at a node with an address whose shadow bank is free of conflict (R68). -/
theorem checkCommit_free {t : State} (h : checkCommit r t = none) :
    t.cmd.address ≠ 0 ∧ ConflictFree t.map.shadow := by
  simp only [checkCommit, require_eq_none] at h
  obtain ⟨-, ha, -, -, hp⟩ := h
  refine ⟨by simpa using ha, conflictFree_of_conflictPair ?_⟩
  split at hp
  · cases hp
  · assumption

theorem State.answer_map (s : State) (r : Request) (x : ResponseRecord) : (s.answer r x).map = s.map := by
  obtain ⟨y, h⟩ := s.answer_eq r x
  rw [h]

/-- The answer of a command sent to the node itself is its response record (R98, R102). -/
theorem State.answer_response (s : State) (h : r.cls = .unicast ∨ r.cls = .firstUnaddressed) (x : ResponseRecord) :
    (s.answer r x).cmd.response = x := by
  unfold State.answer
  rcases h with h | h <;> rw [h]

theorem closeFrame_mapEnd (f : FrameInFlight) (e : FrameClose) (s : State) : MapEnd s f e (closeFrame f e s).s := by
  have hcounted := countedState_map f e s
  rw [closeFrame_eq_run]
  cases ht : (Closing.settled f e s).taking with
  | nothing => exact .stands hcounted
  | turned r t => exact .stands ((State.answer_map ..).trans hcounted)
  | accepted r n =>
    have ha := acceptsAt_of_settled ht
    obtain ⟨hcommit, hshadow⟩ := metByCommand_commit f e s
    generalize (Closing.settled f e s).capture = k
    have hmap : ((Taking.accepted r n).run k (countedState f e s)).map = (doCommand n r k (countedState f e s)).1.map :=
      State.answer_map ..
    have hc := doCommand_mapCommand n r k (countedState f e s)
    rw [← hmap, hcounted] at hc
    generalize hm : ((Taking.accepted r n).run k (countedState f e s)).map = m at hc
    cases hc with
    | stands _ _ => exact .stands hm
    | writes v => exact .written r ha (hcommit ▸ checkWriteEntries_idle ha.passes) v hm
    | copies =>
      exact .copying r ha (hcommit ▸ checkCopyActive_idle ha.passes) (State.answer_response _ (ha.own rfl) _) hm
    | arms F =>
      obtain ⟨haddress, hfree⟩ := checkCommit_free ha.passes
      exact .armed (hshadow ▸ hfree) (metByCommand_address f e s ▸ haddress) F hm
    | disarms => exact .disarmed hm
    | resets => exact .reset hm

end

end Sys2Proof.Machine
end

section
/-! SUPPORT. What one happening can do to the Map Store, the Slot Engine, the Command Unit and the frame they work on,
said once for every row of the table. -/

namespace Sys2Proof.Machine

/-- `t` has the Slot Engine, the Map Store and the Command Unit of `s`. -/
structure SameBlocks (s t : State) : Prop where
  slots : t.slots = s.slots
  map : t.map = s.map
  cmd : t.cmd = s.cmd

theorem SameBlocks.refl (s : State) : SameBlocks s s := ⟨rfl, rfl, rfl⟩

theorem SameBlocks.setLink {s u : State} (h : SameBlocks s u) (l : LinkReceiver) :
    SameBlocks s { u with link := l } := ⟨h.slots, h.map, h.cmd⟩

/-- What one happening can do to these blocks. -/
inductive BlockMove (s t : State) : Prop
  /-- it reaches neither them nor the frame in flight -/
  | stands (frame : t.frame = s.frame) (same : SameBlocks s t)
  /-- they take their reset values, with no frame in flight (R15) -/
  | reset (frame : t.frame = none) (slots : t.slots = SlotEngine.empty) (map : t.map = MapStore.reset)
      (cmd : t.cmd = CommandUnit.reset)
  /-- a frame has begun where none was in flight, and its header is next (R1, R25) -/
  | begun (f : FrameInFlight) (was : s.frame = none) (now : t.frame = some f) (pos : f.pos = 1) (same : SameBlocks s t)
  /-- the header of frame `f` has passed (R31, R37, R70) -/
  | header (f : FrameInFlight) (w : Word) (was : s.frame = some f) (pos : f.pos = 1) (now : t = s.headerTime f w)
  /-- slot `i` of frame `f` has passed (R39) -/
  | slot (f : FrameInFlight) (i : SlotNumber) (w : Word) (was : s.frame = some f) (pos : f.pos = i.val + 2)
      (now : t = s.slotPasses f i w)
  /-- a region of frame `f` has passed, and a command may have been read from it (R92, R116) -/
  | region (f g : FrameInFlight) (was : s.frame = some f) (pos : 66 ≤ f.pos) (now : t.frame = some g)
      (later : f.pos ≤ g.pos) (bank : g.bank = f.bank) (slots : t.slots = s.slots) (map : t.map = s.map)
      (held : t.cmd = s.cmd
        ∨ ∃ w p0 p1 p2 p3, t.cmd = { s.cmd with inFlight := some (readCommand s.cmd.address w p0 p1 p2 p3) })
  /-- frame `f` has ended (R30) -/
  | ended (f : FrameInFlight) (e : FrameClose) (was : s.frame = some f) (pos : f.pos = 76)
      (now : t = (closeFrame f e s).s)

theorem BlockMove.refl (s : State) : BlockMove s s := .stands rfl (.refl s)

theorem BlockMove.of_happens {s t u : State} (h : happens s t = .next u) (m : BlockMove s t) : BlockMove s u := by
  rcases happens_cases h with rfl | rfl
  · exact .refl _
  · exact m

/-! ### The happenings' own operations -/

/-- A frame begins in a state that differs from `s` outside these blocks. -/
theorem BlockMove.of_beginFrame {s u : State} (was : s.frame = none) (h : SameBlocks s u) (b : Bool) (t : BitTime) :
    BlockMove s (u.beginFrame b t) :=
  .begun _ was rfl rfl ⟨h.slots, h.map, h.cmd⟩

theorem State.failVerify_blocks (s : State) : BlockMove s s.failVerify := by
  unfold State.failVerify
  dsimp only
  split <;> exact .stands rfl ⟨rfl, rfl, rfl⟩

theorem State.lockAt_blocks (s : State) (p : BitTime) : (s.lockAt p).frame = s.frame ∧ SameBlocks s (s.lockAt p) := by
  unfold State.lockAt
  dsimp only
  split <;> exact ⟨rfl, rfl, rfl, rfl⟩

/-- The relock rule begins a frame where none is in progress, and reaches these blocks in neither case (R27). -/
theorem State.relock_blocks {s u : State} (h : SameBlocks s u) (hf : u.frame = s.frame) (p : BitTime) :
    BlockMove s (u.relock p) := by
  unfold State.relock
  split
  · next hn =>
    have hnone : u.frame = none := Option.isNone_iff_eq_none.1 (Bool.and_eq_true _ _ ▸ hn).1
    exact .of_beginFrame (hf ▸ hnone) (h.setLink _) _ _
  · exact .stands hf ⟨h.slots, h.map, h.cmd⟩

theorem State.missSync_blocks {s : State} (hf : s.frame = none) (p : BitTime) (n : Nat) :
    BlockMove s (s.missSync p n) := by
  unfold State.missSync
  dsimp only
  split
  · exact .of_beginFrame hf ((SameBlocks.refl s).setLink _) _ _
  · exact .begun _ hf rfl rfl ⟨rfl, rfl, rfl⟩

theorem State.commandRegion_blocks {s : State} {f : FrameInFlight} (w p0 p1 p2 p3 : Word) (hf : s.frame = some f)
    (hp : f.pos = 66) : BlockMove s (s.commandRegion f w p0 p1 p2 p3) := by
  unfold State.commandRegion
  dsimp only
  split
  · exact .region f _ hf hp.ge rfl (Nat.le_add_right ..) rfl rfl rfl (.inr ⟨w, p0, p1, p2, p3, rfl⟩)
  · exact .region f _ hf hp.ge rfl (Nat.le_add_right ..) rfl rfl rfl (.inl rfl)

theorem State.responseRegion_blocks {s : State} {f : FrameInFlight} (w d0 d1 d2 d3 : Word) (hf : s.frame = some f)
    (hp : f.pos = 71) : BlockMove s (s.responseRegion f w d0 d1 d2 d3) := by
  have hle : 66 ≤ f.pos := by omega
  unfold State.responseRegion
  dsimp only
  split
  · split <;> exact .region f _ hf hle rfl (Nat.le_add_right ..) rfl rfl rfl (.inl rfl)
  · exact .region f _ hf hle rfl (Nat.le_add_right ..) rfl rfl rfl (.inl rfl)

/-! ### Every happening -/

theorem exec_blockMove {i : Instr} {s t : State} (h : exec i s = .next t) : BlockMove s t := by
  cases i
  case powerOn p =>
    unfold exec execPowerOn at h
    cases h
    cases s.resetHeld <;> exact .reset rfl rfl rfl rfl
  case resetPinLow p => exact .of_happens h (.reset rfl rfl rfl rfl)
  case resetPinRelease p =>
    unfold exec execResetPinRelease at h
    cases h
    split
    · exact .reset rfl rfl rfl rfl
    · exact .refl s
  case startupIdleFillEnds =>
    refine .of_happens h ?_
    split
    · next hf => exact .of_beginFrame hf (.refl s) _ _
    · exact .refl s
  case regeneratedFrameStart =>
    refine .of_happens h ?_
    split
    · next hf =>
      split
      · exact .of_beginFrame hf (.refl s) _ _
      · exact .refl s
    · exact .refl s
  case syncFoundInHunt p => exact .of_happens h (by split <;> exact .stands rfl ⟨rfl, rfl, rfl⟩)
  case candidateCheckWord content check =>
    refine .of_happens h ?_
    split
    · split
      · exact .stands rfl ⟨rfl, rfl, rfl⟩
      · exact s.failVerify_blocks
    · exact .refl s
  case secondSyncJudged window =>
    refine .of_happens h ?_
    split
    · split
      · split
        · obtain ⟨hf, hsame⟩ := s.lockAt_blocks (_ + Config.frameBits)
          exact State.relock_blocks hsame hf _
        · exact s.failVerify_blocks
      · exact .refl s
    · exact .refl s
  case syncFoundInLocked =>
    refine .of_happens h ?_
    split
    · next hf =>
      split
      · dsimp only
        split
        · exact State.relock_blocks ((SameBlocks.refl s).setLink (s.link.foundAt _)) rfl _
        · exact .of_beginFrame hf ((SameBlocks.refl s).setLink _) _ _
      · exact .refl s
    · exact .refl s
  case syncMissInLocked =>
    refine .of_happens h ?_
    split
    · next hf =>
      split
      · exact State.missSync_blocks hf _ _
      · exact .refl s
    · exact .refl s
  case syncFoundInFlywheel =>
    refine .of_happens h ?_
    split
    · next hf =>
      split
      · exact .of_beginFrame hf ((SameBlocks.refl s).setLink _) _ _
      · exact .refl s
    · exact .refl s
  case syncMissInFlywheel =>
    refine .of_happens h ?_
    split
    · next hf =>
      split
      · exact State.missSync_blocks hf _ _
      · exact .refl s
    · exact .refl s
  case syncFoundElsewhereInFlywheel p =>
    exact .of_happens h (by split <;> exact .stands rfl ⟨rfl, rfl, rfl⟩)
  case headerTime w =>
    refine .of_happens h ?_
    split
    · next f hf => obtain ⟨hf, hp⟩ := State.frameAt_eq_some.1 hf; exact .header f w hf hp rfl
    · exact .refl s
  case commitFire w =>
    refine .of_happens h ?_
    split
    · next f _ hf _ => obtain ⟨hf, hp⟩ := State.frameAt_eq_some.1 hf; exact .header f w hf hp rfl
    · exact .refl s
  case slotInFlight w =>
    refine .of_happens h ?_
    split
    · next f hf =>
      split
      · next i hi => exact .slot f i w hf (FrameInFlight.nextSlot_eq_some.1 hi) rfl
      · exact .refl s
    · exact .refl s
  case commandRegionHeader w names p0 p1 p2 p3 =>
    refine .of_happens h ?_
    split
    · next f hf =>
      obtain ⟨hf, hp⟩ := State.frameAt_eq_some.1 hf
      split
      · exact .refl s
      · exact State.commandRegion_blocks w p0 p1 p2 p3 hf hp
    · exact .refl s
  case responseRegionHeader w d0 d1 d2 d3 =>
    refine .of_happens h ?_
    split
    · next f hf =>
      obtain ⟨hf, hp⟩ := State.frameAt_eq_some.1 hf
      exact State.responseRegion_blocks w d0 d1 d2 d3 hf hp
    · exact .refl s
  case sampleArrival c v => exact .of_happens h (.stands rfl ⟨rfl, rfl, rfl⟩)
  all_goals
    rcases exec_close_cases rfl h with rfl | ⟨f, -, hf, hp, rfl⟩
    · exact .refl _
    · exact .ended f _ hf hp rfl

/-- One step is such a move from the state without the happening it takes. -/
theorem step_blockMove {s t : State} (h : step s = .next t) :
    ∃ rest, BlockMove { s with pending := rest } t := by
  unfold step at h
  split at h
  · cases h; exact ⟨s.pending, .refl s⟩
  · next i rest _ => exact ⟨rest, exec_blockMove h⟩

/-! ### The map at a header time (R35, R37, R55, R70) -/

/-- A header time leaves the map with the banks' reset after a NODE RESET, and with the designations exchanged where an
armed commit fires. -/
theorem State.headerTime_map (s : State) (f : FrameInFlight) (w : Word) :
    ((s.headerTime f w).map = s.map.atHeader ∨ s.map.commit ≠ none
        ∧ (s.headerTime f w).map = { s.map.atHeader with active := s.map.atHeader.active.other, commit := none }) := by
  show (State.fireIfDue { s with map := s.map.atHeader }).map = _ ∨ _
    ∧ (State.fireIfDue { s with map := s.map.atHeader }).map = _
  unfold State.fireIfDue
  split
  · next F hF =>
    obtain ⟨hc, -⟩ := MapStore.firing_eq_some.1 hF
    rw [MapStore.atHeader_commit] at hc
    exact .inr ⟨by simp [hc], rfl⟩
  · exact .inl rfl

theorem State.headerTime_frame (s : State) (f : FrameInFlight) (w : Word) :
    ∃ g, (s.headerTime f w).frame = some g ∧ g.pos = f.pos + 1 :=
  ⟨_, rfl, rfl⟩

theorem State.headerTime_slots (s : State) (f : FrameInFlight) (w : Word) : (s.headerTime f w).slots = s.slots := by
  show (State.fireIfDue _).slots = _
  unfold State.fireIfDue
  split <;> rfl

end Sys2Proof.Machine
end

section
/-! PROOFS. The laws of the map under every happening: the active bank free of conflict (O54), and a node without an
address that passes everything (O55). -/

namespace Sys2Proof.Machine

/-! ### The first law of R36 on the Map Store by itself -/

/-- The laws of the map that the Map Store keeps by itself (R36, R56, R64). -/
structure MapStore.Lawful (m : MapStore) : Prop where
  active : ConflictFree (m.bank m.active)
  armedShadow : m.commit ≠ none → ConflictFree m.shadow
  armedCopy : m.commit ≠ none → m.copy = none
  source : ∀ k, m.copy = some k → k = m.active

/-- With a NODE RESET behind it, and its header time ahead, nothing is armed and no copy runs (R55). -/
def State.ResetWaits (s : State) : Prop :=
  s.map.resetDue = true → s.map.commit = none ∧ s.map.copy = none ∧ ∀ f, s.frame = some f → f.pos = 1

theorem mapLaw_iff {s : State} : MapLaw s ↔ s.map.Lawful ∧ s.ResetWaits :=
  ⟨fun ⟨h1, h2, h3, h4, h5⟩ => ⟨⟨h1, h2, h3, h4⟩, h5⟩, fun ⟨⟨h1, h2, h3, h4⟩, h5⟩ => ⟨h1, h2, h3, h4, h5⟩⟩

/-- With nothing armed and no copy running, a map whose active bank is free of conflict is lawful. -/
theorem MapStore.lawful_idle {m : MapStore} (hc : m.commit = none) (hr : m.copy = none)
    (h : ConflictFree (m.bank m.active)) : m.Lawful := by
  constructor <;> simp [hc, hr, h]

section
variable {m : MapStore}

/-- A running copy is over (R65, R66). -/
theorem MapStore.Lawful.endCopy (h : m.Lawful) : { m with copy := none }.Lawful :=
  ⟨h.active, h.armedShadow, fun _ => rfl, by rintro k ⟨⟩⟩

/-- A commit is disarmed (R72). -/
theorem MapStore.Lawful.disarm (h : m.Lawful) : { m with commit := none }.Lawful :=
  ⟨h.active, fun hc => absurd rfl hc, fun hc => absurd rfl hc, h.source⟩

/-- The banks take their reset contents, where nothing is armed and no copy runs (R35, R55). -/
theorem MapStore.Lawful.atHeader (h : m.Lawful) (hdue : m.resetDue = true → m.commit = none ∧ m.copy = none) :
    m.atHeader.Lawful := by
  by_cases hd : m.resetDue = true
  · obtain ⟨hc, hr⟩ := hdue hd
    rw [MapStore.atHeader_due hd]
    exact MapStore.lawful_idle hc hr conflictFree_allPass
  · rwa [MapStore.atHeader_eq (by simpa using hd)]

/-- A commit fires: its shadow bank, free of conflict, becomes the active one (R70). -/
theorem MapStore.Lawful.fire (h : m.Lawful) (hc : m.commit ≠ none) :
    { m with active := m.active.other, commit := none }.Lawful :=
  MapStore.lawful_idle rfl (h.armedCopy hc) (h.armedShadow hc)

/-- The active bank stands while slots pass: a running copy writes the other one (R37, R64). -/
theorem MapStore.copyEntry_activeBank (h : ∀ k, m.copy = some k → k = m.active) (i : SlotNumber) :
    (m.copyEntry i).bank m.active = m.bank m.active := by
  cases hc : m.copy with
  | none => rw [MapStore.copyEntry_idle i hc]
  | some src =>
    obtain rfl := h src hc
    exact MapStore.copyEntry_source i hc

/-- A running copy leaves the active bank, and none runs while a commit is armed (R56, R64). -/
theorem MapStore.Lawful.copyEntry (h : m.Lawful) (i : SlotNumber) : (m.copyEntry i).Lawful := by
  refine ⟨?_, fun hc => ?_, fun hc => ?_, fun k hk => ?_⟩
  · rw [MapStore.copyEntry_active, MapStore.copyEntry_activeBank h.source]
    exact h.active
  · rw [MapStore.copyEntry_commit] at hc
    rw [MapStore.copyEntry_idle i (h.armedCopy hc)]
    exact h.armedShadow hc
  · rw [MapStore.copyEntry_commit] at hc
    rw [MapStore.copyEntry_copy, h.armedCopy hc]
  · rw [MapStore.copyEntry_copy] at hk
    rw [MapStore.copyEntry_active, h.source k hk]

end

/-- A frame end keeps the laws of the map, whatever command it takes. -/
theorem MapEnd.lawful {s t : State} {f : FrameInFlight} {e : FrameClose} (m : MapEnd s f e t) (h : s.map.Lawful) :
    t.map.Lawful := by
  cases m with
  | stands now => rw [now]; exact h.endCopy
  | written r accepts idle v now =>
    rw [now]
    refine MapStore.lawful_idle ?_ ?_ ?_
    · rw [MapStore.setBank_commit]; exact idle
    · rw [MapStore.setBank_copy]
    · rw [MapStore.setBank_active, MapStore.bank_setBank_other]; exact h.active
  | copying r accepts idle answer now =>
    rw [now]
    exact ⟨h.active, fun hc => absurd idle hc, fun hc => absurd idle hc, by rintro k ⟨⟩; rfl⟩
  | armed free addressed F now =>
    rw [now]
    exact ⟨h.active, fun _ => free, fun _ => rfl, by rintro k ⟨⟩⟩
  | disarmed now => rw [now]; exact h.endCopy.disarm
  | reset now =>
    rw [now]
    exact MapStore.lawful_idle rfl rfl (by rw [MapStore.nodeReset_bank]; exact h.active)

/-- The banks' reset waits after a NODE RESET alone, which leaves nothing armed and no copy running (R55). -/
theorem MapEnd.resetDue {s t : State} {f : FrameInFlight} {e : FrameClose} (m : MapEnd s f e t)
    (h : s.map.resetDue = false) (hd : t.map.resetDue = true) : t.map.commit = none ∧ t.map.copy = none := by
  cases m with
  | reset now => rw [now]; exact ⟨rfl, rfl⟩
  | written r accepts idle v now =>
    rw [now, MapStore.setBank_resetDue] at hd
    cases h.symm.trans hd
  | stands now | copying _ _ _ _ now | armed _ _ _ now | disarmed now =>
    rw [now] at hd
    cases h.symm.trans hd

/-! ### Every step keeps the first law (O54) -/

theorem MapLaw.stands {s t : State} (h : MapLaw s) (hm : t.map = s.map)
    (hp : ∀ f, t.frame = some f → s.frame = some f ∨ f.pos = 1) : MapLaw t := by
  obtain ⟨hlaw, hwaits⟩ := mapLaw_iff.1 h
  refine mapLaw_iff.2 ⟨hm ▸ hlaw, fun hd => ?_⟩
  rw [hm] at hd ⊢
  obtain ⟨hc, hr, hpos⟩ := hwaits hd
  exact ⟨hc, hr, fun f hf => (hp f hf).elim (hpos f) id⟩

/-- Once a word of the frame in flight has passed no reset of the banks waits. -/
theorem MapLaw.notDue {s : State} {f : FrameInFlight} (h : MapLaw s) (hf : s.frame = some f) (hp : f.pos ≠ 1) :
    s.map.resetDue = false := by
  by_contra hd
  obtain ⟨-, -, hpos⟩ := h.due (by simpa using hd)
  exact hp (hpos f hf)

theorem State.resetWaits_of_notDue {s : State} (h : s.map.resetDue = false) : s.ResetWaits :=
  fun hd => by cases h.symm.trans hd

theorem BlockMove.keeps_mapLaw {s t : State} (m : BlockMove s t) (h : MapLaw s) : MapLaw t := by
  obtain ⟨hlaw, hwaits⟩ := mapLaw_iff.1 h
  cases m with
  | stands frame same => exact h.stands same.map fun f hf => .inl (frame ▸ hf)
  | reset frame slots map cmd =>
    refine mapLaw_iff.2 ⟨?_, State.resetWaits_of_notDue ?_⟩ <;> rw [map]
    · exact MapStore.lawful_idle rfl rfl conflictFree_allPass
    · rfl
  | begun f was now pos same => exact h.stands same.map fun g hg => .inr (by rw [now] at hg; cases hg; exact pos)
  | header f w was pos now =>
    have hheader : s.map.atHeader.Lawful :=
      hlaw.atHeader fun hd => ⟨(hwaits hd).1, (hwaits hd).2.1⟩
    subst now
    refine mapLaw_iff.2 ?_
    rcases s.headerTime_map f w with hm | ⟨hc, hm⟩
    · exact ⟨hm ▸ hheader, State.resetWaits_of_notDue (by rw [hm, MapStore.atHeader_resetDue])⟩
    · exact ⟨hm ▸ hheader.fire (by rwa [MapStore.atHeader_commit]),
        State.resetWaits_of_notDue (by rw [hm]; exact s.map.atHeader_resetDue)⟩
  | slot f i w was pos now =>
    have hdue : s.map.resetDue = false := h.notDue was (by omega)
    subst now
    exact mapLaw_iff.2 ⟨hlaw.copyEntry i, State.resetWaits_of_notDue ((MapStore.copyEntry_resetDue i s.map).trans hdue)⟩
  | region f g was pos now later bank slots map held =>
    have hdue : s.map.resetDue = false := h.notDue was (by omega)
    exact mapLaw_iff.2 ⟨map ▸ hlaw, State.resetWaits_of_notDue (map ▸ hdue)⟩
  | ended f e was pos now =>
    have hdue : s.map.resetDue = false := h.notDue was (by omega)
    have hend := closeFrame_mapEnd f e s
    obtain ⟨-, -, hframe, -⟩ := closeFrame_host f e s
    subst now
    refine mapLaw_iff.2 ⟨hend.lawful hlaw, fun hd => ?_⟩
    obtain ⟨hc, hr⟩ := hend.resetDue hdue hd
    exact ⟨hc, hr, fun g hg => by rw [hframe] at hg; cases hg⟩

theorem MapLaw.queue {s : State} (h : MapLaw s) (q : List Instr) : MapLaw { s with pending := q } :=
  ⟨h.active, h.armedShadow, h.armedCopy, h.source, h.due⟩

/-- Settles O54: each kind of move a step can make keeps the laws of the map. -/
theorem activeBankStaysFreeOfConflict : Obligations.ActiveBankStaysFreeOfConflict := by
  unfold Obligations.ActiveBankStaysFreeOfConflict
  intro s t h hstep
  obtain ⟨rest, m⟩ := step_blockMove hstep
  exact m.keeps_mapLaw (h.queue rest)

/-! ### The second law of R36 on the Map Store by itself -/

/-- Every entry of either bank is PASS, nothing is armed and no copy runs. -/
structure MapStore.PassesAll (m : MapStore) : Prop where
  pass : ∀ (k : Bank) (i : SlotNumber), (m.bank k)[i].action = .pass
  idle : m.commit = none ∧ m.copy = none

/-- The only command held for the node itself is a claimed ASSIGN ADDRESS (R93). -/
def State.HoldsClaimAlone (s : State) : Prop :=
  ∀ r, s.cmd.inFlight = some r → r.cls ≠ .unicast ∧ (r.cls = .firstUnaddressed → r.name = some .assignAddress)

theorem unaddressedLaw_iff {s : State} : UnaddressedLaw s ↔
    (s.cmd.address = 0 → s.map.PassesAll ∧ s.HoldsClaimAlone) ∧ s.cmd.address.toNat ≤ 61 :=
  ⟨fun ⟨hp, hi, hh, hr⟩ => ⟨fun h => ⟨⟨hp h, hi h⟩, hh h⟩, hr⟩,
    fun ⟨h, hr⟩ => ⟨fun h0 => (h h0).1.pass, fun h0 => (h h0).1.idle, fun h0 => (h h0).2, hr⟩⟩

theorem MapBank.allPass_action (i : SlotNumber) : MapBank.allPass[i].action = .pass := by
  simp [MapBank.allPass, MapEntry.zero]

theorem MapStore.PassesAll.atHeader {m : MapStore} (h : m.PassesAll) : m.atHeader.PassesAll := by
  refine ⟨fun k i => ?_, by simpa using h.idle⟩
  by_cases hd : m.resetDue = true
  · rw [MapStore.atHeader_due hd]
    cases k <;> exact MapBank.allPass_action i
  · rw [MapStore.atHeader_eq (by simpa using hd)]
    exact h.pass k i

/-- At a node of address 0 a frame end takes no command that loads the map, arms it or copies it (R93, R98). -/
theorem MapEnd.passesAll {s t : State} {f : FrameInFlight} {e : FrameClose} (m : MapEnd s f e t)
    (h0 : s.cmd.address = 0) (h : s.map.PassesAll) (hh : s.HoldsClaimAlone) : t.map.PassesAll := by
  have notOwn : ∀ {r n}, AcceptsAt s f e r n → acceptsBroadcast n = false → n = .assignAddress := by
    intro r n ha hn
    obtain ⟨hunicast, hclaim⟩ := hh r ha.held
    have hname := hclaim ((ha.own hn).resolve_left hunicast)
    exact Option.some.inj (ha.name.symm.trans hname)
  cases m with
  | stands now => rw [now]; exact ⟨h.pass, h.idle.1, rfl⟩
  | written r accepts idle v now => cases notOwn accepts rfl
  | copying r accepts idle answer now => cases notOwn accepts rfl
  | armed free addressed F now => exact absurd h0 addressed
  | disarmed now => rw [now]; exact ⟨h.pass, rfl, rfl⟩
  | reset now => rw [now]; exact ⟨fun k i => by rw [MapStore.nodeReset_bank]; exact h.pass k i, rfl, rfl⟩

/-! ### The address (R93, R106) -/

theorem State.answer_address (s : State) (r : Request) (x : ResponseRecord) :
    (s.answer r x).cmd.address = s.cmd.address := by
  obtain ⟨y, h⟩ := s.answer_eq r x
  rw [h]

/-- The address stands through a frame end, or becomes one that a node can hold (R106, R107). -/
theorem closeFrame_address_cases (f : FrameInFlight) (e : FrameClose) (s : State) :
    (closeFrame f e s).s.cmd.address = s.cmd.address
      ∨ 1 ≤ (closeFrame f e s).s.cmd.address.toNat ∧ (closeFrame f e s).s.cmd.address.toNat ≤ 61 := by
  by_cases h : ∀ r, s.cmd.inFlight = some r → r.name ≠ some .assignAddress
  · exact .inl (closeFrame_address h f e)
  · have hcounted := countedState_address f e s
    rw [closeFrame_eq_run]
    cases ht : (Closing.settled f e s).taking with
    | nothing => exact .inl hcounted
    | turned r t => exact .inl ((State.answer_address ..).trans hcounted)
    | accepted r n =>
      have ha := acceptsAt_of_settled ht
      push Not at h
      obtain ⟨q, hq, hname⟩ := h
      obtain rfl : q = r := Option.some.inj (hq.symm.trans ha.held)
      obtain rfl : n = .assignAddress := Option.some.inj (ha.name.symm.trans hname)
      obtain ⟨-, hlo, hhi⟩ := checkAssignAddress_eq_none.1 ha.passes
      have hvalue : (q.p0.extractLsb' 0 6).toNat = q.p0.toNat := by
        rw [BitVec.extractLsb'_toNat, Nat.shiftRight_zero]
        exact Nat.mod_eq_of_lt (by omega)
      have hassigned : ((Taking.accepted q .assignAddress).run (Closing.settled f e s).capture
          (countedState f e s)).cmd.address = q.p0.extractLsb' 0 6 := State.answer_address ..
      rw [hassigned, hvalue]
      exact .inr ⟨hlo, hhi⟩

/-- At a node of address 0 no command is a unicast, and a first-unaddressed one is ASSIGN ADDRESS (R93). -/
theorem readCommand_unaddressed (w p0 p1 p2 p3 : Word) :
    (readCommand 0 w p0 p1 p2 p3).cls ≠ .unicast ∧ ((readCommand 0 w p0 p1 p2 p3).cls = .firstUnaddressed →
      (readCommand 0 w p0 p1 p2 p3).name = some .assignAddress) := by
  have hnode : isNodeAddress 0 = false := by decide
  simp only [readCommand, targetClass, hnode]
  split
  · simp
  · split
    · next h => simp at h
    · split
      · next h =>
        rw [Bool.and_eq_true] at h
        exact ⟨by simp, fun _ => beq_iff_eq.1 h.2⟩
      · simp

/-! ### Every step keeps the second law (O55) -/

theorem UnaddressedLaw.next {s t : State} (h : UnaddressedLaw s) (ha : t.cmd.address = s.cmd.address)
    (ht : s.cmd.address = 0 → s.map.PassesAll → s.HoldsClaimAlone → t.map.PassesAll ∧ t.HoldsClaimAlone) :
    UnaddressedLaw t := by
  obtain ⟨hlaw, hrange⟩ := unaddressedLaw_iff.1 h
  refine unaddressedLaw_iff.2 ⟨fun h0 => ?_, ha ▸ hrange⟩
  rw [ha] at h0
  obtain ⟨hp, hh⟩ := hlaw h0
  exact ht h0 hp hh

theorem State.HoldsClaimAlone.of_cmd {s t : State} (h : s.HoldsClaimAlone) (hc : t.cmd = s.cmd) :
    t.HoldsClaimAlone := by
  unfold State.HoldsClaimAlone
  rw [hc]
  exact h

theorem UnaddressedLaw.closeFrame {s : State} (h : UnaddressedLaw s) (f : FrameInFlight) (e : FrameClose) :
    UnaddressedLaw (closeFrame f e s).s := by
  obtain ⟨hheld, -⟩ := closeFrame_cleared f e s
  rcases closeFrame_address_cases f e s with ha | ⟨hlo, hhi⟩
  · refine h.next ha fun h0 hp hh => ⟨(closeFrame_mapEnd f e s).passesAll h0 hp hh, fun r hr => ?_⟩
    rw [hheld] at hr
    cases hr
  · exact unaddressedLaw_iff.2 ⟨fun h0 => by rw [h0] at hlo; simp at hlo, hhi⟩

theorem BlockMove.keeps_unaddressedLaw {s t : State} (m : BlockMove s t) (h : UnaddressedLaw s) :
    UnaddressedLaw t := by
  cases m with
  | stands frame same | begun _ _ _ _ same =>
    exact h.next (by rw [same.cmd]) fun _ hp hh => ⟨same.map ▸ hp, hh.of_cmd same.cmd⟩
  | reset frame slots map cmd =>
    refine unaddressedLaw_iff.2 ⟨fun _ => ⟨?_, fun r hr => ?_⟩, by rw [cmd]; decide⟩
    · rw [map]
      exact ⟨fun k i => by cases k <;> exact MapBank.allPass_action i, rfl, rfl⟩
    · rw [cmd] at hr
      cases hr
  | header f w was pos now =>
    subst now
    obtain ⟨-, hcmd, -⟩ := s.headerTime_stands f w
    refine h.next (by rw [hcmd]) fun _ hp hh => ⟨?_, hh.of_cmd hcmd⟩
    rcases s.headerTime_map f w with hm | ⟨hc, -⟩
    · exact hm ▸ hp.atHeader
    · exact absurd hp.idle.1 hc
  | slot f i w was pos now =>
    subst now
    refine h.next rfl fun _ hp hh => ⟨?_, hh.of_cmd rfl⟩
    show (s.map.copyEntry i).PassesAll
    rwa [MapStore.copyEntry_idle i hp.idle.2]
  | region f g was pos now later bank slots map held =>
    rcases held with hc | ⟨w, p0, p1, p2, p3, hc⟩
    · exact h.next (by rw [hc]) fun _ hp hh => ⟨map ▸ hp, hh.of_cmd hc⟩
    · refine h.next (by rw [hc]) fun h0 hp _ => ⟨map ▸ hp, fun r hr => ?_⟩
      rw [hc] at hr
      cases hr
      rw [h0]
      exact readCommand_unaddressed w p0 p1 p2 p3
  | ended f e was pos now => subst now; exact h.closeFrame f e

theorem UnaddressedLaw.queue {s : State} (h : UnaddressedLaw s) (q : List Instr) :
    UnaddressedLaw { s with pending := q } :=
  ⟨h.pass, h.idle, h.held, h.range⟩

/-- Settles O55: each kind of move a step can make keeps the law of a node without an address. -/
theorem unaddressedNodePassesEverything : Obligations.UnaddressedNodePassesEverything := by
  unfold Obligations.UnaddressedNodePassesEverything
  intro s t h hstep
  obtain ⟨rest, m⟩ := step_blockMove hstep
  exact m.keeps_unaddressedLaw (h.queue rest)

end Sys2Proof.Machine
end

section
/-! PROOFS. The slots of a frame that have passed (O59): the taps they staged, and the entries that a running copy has
taken into the other bank. -/

namespace Sys2Proof.Machine

/-! ### The staged taps (R36, R38, R50) -/

theorem StagedOnce.of_empty {t : State} (h : t.slots.staged = []) : StagedOnce t :=
  ⟨by simp [h], fun f _ r hr => by simp [h] at hr, fun _ => h⟩

/-- Before the first slot of a frame no tap is staged. -/
theorem StagedOnce.before_slots {s : State} {f : FrameInFlight} (h : StagedOnce s) (hf : s.frame = some f)
    (hp : f.pos = 1) : s.slots.staged = [] := by
  refine List.eq_nil_iff_forall_not_mem.2 fun t ht => ?_
  obtain ⟨i, hi, -⟩ := h.passed f hf t ht
  omega

/-- No two of the taps name one output channel, so there are at most eight (R36, R38). -/
theorem StagedOnce.length_le {s : State} (h : StagedOnce s) : s.slots.staged.length ≤ 8 := by
  simpa using h.distinct.length_le_card

theorem StagedOnce.of_frame {s t : State} {f g : FrameInFlight} (h : StagedOnce s) (hf : s.frame = some f)
    (hg : t.frame = some g) (hs : t.slots = s.slots) (hm : t.map = s.map) (hp : f.pos ≤ g.pos) (hb : g.bank = f.bank) :
    StagedOnce t := by
  refine ⟨hs ▸ h.distinct, fun g' hg' r hr => ?_, fun hn => by rw [hg] at hn; cases hn⟩
  rw [hg] at hg'
  cases hg'
  rw [hs] at hr
  obtain ⟨i, hi, htaps, hc⟩ := h.passed f hf r hr
  rw [hm, hb]
  exact ⟨i, by omega, htaps, hc⟩

/-- A tap that a slot stages names an output channel that no slot before it named, since their bank is free of
conflict (R36). -/
theorem StagedOnce.slotPasses {s : State} {f : FrameInFlight} {i : SlotNumber} (h : StagedOnce s) (hlaw : MapLaw s)
    (hn : FrameKeepsItsNumber s) (hf : s.frame = some f) (hp : f.pos = i.val + 2) (w : Word) :
    StagedOnce (s.slotPasses f i w) := by
  obtain ⟨-, hbank⟩ := hn f hf
  have hkept : (s.slotPasses f i w).map.bank f.bank = s.map.bank f.bank := by
    rw [hbank]
    exact MapStore.copyEntry_activeBank hlaw.source i
  have before : ∀ t ∈ s.slots.staged, ∃ j : SlotNumber, j.val < i.val ∧ (s.map.bank f.bank)[j].taps = true
      ∧ (s.map.bank f.bank)[j].channel = t.channel := by
    intro t ht
    obtain ⟨j, hj, hentry⟩ := h.passed f hf t ht
    exact ⟨j, by omega, hentry⟩
  have hstaged := s.slotPasses_staged f i w
  refine ⟨?_, fun g hg t ht => ?_, by rintro ⟨⟩⟩
  · rw [hstaged]
    split
    · next hstages =>
      rw [Bool.and_eq_true] at hstages
      rw [List.map_append, List.map_singleton, List.nodup_append]
      refine ⟨h.distinct, List.nodup_singleton _, fun c hc d hd => ?_⟩
      obtain ⟨t, ht, rfl⟩ := List.mem_map.1 hc
      obtain ⟨j, hj, htaps, hchannel⟩ := before t ht
      rw [List.mem_singleton.1 hd, ← hchannel, hbank]
      exact hlaw.active j i (by rintro rfl; omega) (hbank ▸ htaps) (hbank ▸ hstages.1)
    · rw [List.append_nil]
      exact h.distinct
  · cases hg
    rw [FrameInFlight.pass_pos, FrameInFlight.pass_bank, hkept, List.length_singleton]
    rw [hstaged, List.mem_append] at ht
    rcases ht with ht | ht
    · obtain ⟨j, hj, hentry⟩ := before t ht
      exact ⟨j, by omega, hentry⟩
    · split at ht
      · next hstages =>
        obtain rfl := List.mem_singleton.1 ht
        exact ⟨i, by omega, (Bool.and_eq_true _ _ ▸ hstages).1, rfl⟩
      · cases ht

theorem BlockMove.keeps_staged {s t : State} (m : BlockMove s t) (hlaw : MapLaw s) (hn : FrameKeepsItsNumber s)
    (h : StagedOnce s) : StagedOnce t := by
  cases m with
  | stands frame same =>
    cases hf : s.frame with
    | none => exact .of_empty (by rw [same.slots]; exact h.between hf)
    | some f => exact h.of_frame hf (frame.trans hf) same.slots same.map le_rfl rfl
  | reset frame slots map cmd => exact .of_empty (by rw [slots]; rfl)
  | begun f was now pos same => exact .of_empty (by rw [same.slots]; exact h.between was)
  | header f w was pos now =>
    subst now
    exact .of_empty (by rw [State.headerTime_slots]; exact h.before_slots was pos)
  | slot f i w was pos now => subst now; exact h.slotPasses hlaw hn was pos w
  | region f g was pos now later bank slots map held => exact h.of_frame was now slots map later bank
  | ended f e was pos now =>
    subst now
    exact .of_empty (by rw [(closeFrame_cleared f e s).2]; rfl)

/-! ### The running copy (R59, R64, R65) -/

/-- A copy that runs after a frame end was begun there, by a COPY ACTIVE whose answer is PENDING (R63, R65). -/
theorem MapEnd.copyAnswersLater {s t : State} {f : FrameInFlight} {e : FrameClose} (m : MapEnd s f e t) :
    CopyAnswersLater t := by
  intro hc
  cases m with
  | copying r accepts idle answer now => exact ⟨_, _, answer⟩
  | written r accepts idle v now => rw [now, MapStore.setBank_copy] at hc; exact absurd rfl hc
  | stands now | armed _ _ _ now | disarmed now | reset now => rw [now] at hc; exact absurd rfl hc

theorem CopyAnswersLater.of_eq {s t : State} (h : CopyAnswersLater s) (hm : t.map.copy = s.map.copy)
    (hc : t.cmd.response = s.cmd.response) : CopyAnswersLater t := by
  unfold CopyAnswersLater
  rw [hm, hc]
  exact h

theorem State.headerTime_copy (s : State) (f : FrameInFlight) (w : Word) :
    (s.headerTime f w).map.copy = s.map.copy := by
  rcases s.headerTime_map f w with hm | ⟨-, hm⟩ <;> rw [hm] <;> exact s.map.atHeader_copy

theorem BlockMove.keeps_copyAnswersLater {s t : State} (m : BlockMove s t) (h : CopyAnswersLater s) :
    CopyAnswersLater t := by
  cases m with
  | stands frame same | begun _ _ _ _ same => exact h.of_eq (by rw [same.map]) (by rw [same.cmd])
  | reset frame slots map cmd => intro hc; rw [map] at hc; exact absurd rfl hc
  | header f w was pos now =>
    subst now
    exact h.of_eq (s.headerTime_copy f w) (by rw [(s.headerTime_stands f w).2.1])
  | slot f i w was pos now => subst now; exact h.of_eq (MapStore.copyEntry_copy i s.map) rfl
  | region f g was pos now later bank slots map held =>
    refine h.of_eq (by rw [map]) ?_
    rcases held with hc | ⟨w, p0, p1, p2, p3, hc⟩ <;> rw [hc]
  | ended f e was pos now => subst now; exact (closeFrame_mapEnd f e s).copyAnswersLater

theorem CopyKeepsUp.of_frame {s t : State} {f g : FrameInFlight} (h : CopyKeepsUp s) (hf : s.frame = some f)
    (hg : t.frame = some g) (hm : t.map = s.map) (hp : f.pos = g.pos ∨ 66 ≤ f.pos) : CopyKeepsUp t := by
  intro hc g' hg' i hi
  rw [hg] at hg'
  cases hg'
  rw [hm] at hc ⊢
  have hlt := i.isLt
  exact h hc f hf i (by omega)

/-- Before the first slot of a frame there is nothing to hold. -/
theorem CopyKeepsUp.of_start {t : State} {g : FrameInFlight} (hg : t.frame = some g) (hp : g.pos ≤ 2) :
    CopyKeepsUp t := by
  intro _ g' hg' i hi
  rw [hg] at hg'
  cases hg'
  omega

theorem CopyKeepsUp.of_none {t : State} (h : t.frame = none) : CopyKeepsUp t := by
  intro _ g hg
  rw [h] at hg
  cases hg

/-- The two banks hold the same entry in slot `i`. -/
def MapStore.Agrees (m : MapStore) (i : SlotNumber) : Prop := m.bankA[i] = m.bankB[i]

theorem MapStore.agrees_iff {m : MapStore} {i : SlotNumber} (k : Bank) :
    m.Agrees i ↔ (m.bank k.other)[i] = (m.bank k)[i] := by
  cases k
  · exact eq_comm
  · exact Iff.rfl

/-- At its slot time a running copy makes the banks agree on the slot, and it keeps them so on the others (R64). -/
theorem MapStore.copyEntry_agrees {m : MapStore} {src : Bank} (hc : m.copy = some src) {i j : SlotNumber}
    (h : j ≠ i → m.Agrees j) : (m.copyEntry i).Agrees j := by
  rw [MapStore.agrees_iff src, MapStore.copyEntry_other i hc, MapStore.copyEntry_source i hc]
  split
  · next hj => rw [hj]
  · next hj => exact (MapStore.agrees_iff src).1 (h hj)

theorem CopyKeepsUp.slotPasses {s : State} {f : FrameInFlight} {i : SlotNumber} (h : CopyKeepsUp s)
    (hf : s.frame = some f) (hp : f.pos = i.val + 2) (w : Word) : CopyKeepsUp (s.slotPasses f i w) := by
  intro hc g hg j hj
  cases hg
  rw [FrameInFlight.pass_pos, List.length_singleton] at hj
  have hrun : s.map.copy ≠ none := fun hn => hc ((MapStore.copyEntry_copy i s.map).trans hn)
  obtain ⟨src, hsrc⟩ := Option.ne_none_iff_exists'.1 hrun
  refine MapStore.copyEntry_agrees hsrc fun hne => h hrun f hf j ?_
  have hval : j.val ≠ i.val := fun hv => hne (Fin.ext hv)
  omega

theorem BlockMove.keeps_copyKeepsUp {s t : State} (m : BlockMove s t) (h : CopyKeepsUp s) : CopyKeepsUp t := by
  cases m with
  | stands frame same =>
    cases hf : s.frame with
    | none => exact .of_none (frame.trans hf)
    | some f => exact h.of_frame hf (frame.trans hf) same.map (.inl rfl)
  | reset frame slots map cmd => exact .of_none frame
  | begun f was now pos same => exact .of_start now (by omega)
  | header f w was pos now =>
    obtain ⟨g, hg, hgp⟩ := s.headerTime_frame f w
    subst now
    exact .of_start hg (by omega)
  | slot f i w was pos now => subst now; exact h.slotPasses was pos w
  | region f g was pos now later bank slots map held => exact h.of_frame was now map (.inr pos)
  | ended f e was pos now =>
    subst now
    exact .of_none (closeFrame_host f e s).2.2.1

/-- Settles O59: each kind of move a step can make keeps the staged taps and the running copy in step. -/
theorem passedSlotsStayTrue : Obligations.PassedSlotsStayTrue := by
  unfold Obligations.PassedSlotsStayTrue
  intro s t hlaw hn hstep
  obtain ⟨rest, m⟩ := step_blockMove hstep
  refine ⟨fun _ hs => ?_, fun hl hk => ⟨m.keeps_copyAnswersLater hl, m.keeps_copyKeepsUp hk⟩⟩
  have ht : StagedOnce t := m.keeps_staged (hlaw.queue rest) hn ⟨hs.distinct, hs.passed, hs.between⟩
  exact ⟨ht, ht.length_le⟩

end Sys2Proof.Machine
end

section
/-! PROOFS. The firing of an armed commit at the header time of its frame (O11). -/

namespace Sys2Proof.Machine

section
variable {s : State} {f : FrameInFlight} {F : FrameNumber}

/-- At or past the armed F the firing test fires the commit (R70). -/
theorem State.fireIfDue_fires (hc : s.map.commit = some F) (hd : (s.link.E - F).toNat < 131072) :
    s.fireIfDue = s.fireCommit s.link.E F := by
  simp [State.fireIfDue, MapStore.firing_eq_some.2 ⟨hc, hd⟩]

/-- Then the header time is the firing, and the header word that passes, the frame's bank being the new active one (R37,
R70). -/
theorem State.headerTime_fires (hc : s.map.commit = some F) (hd : (s.link.E - F).toNat < 131072)
    (hr : s.map.resetDue = false) (f : FrameInFlight) (w : Word) :
    s.headerTime f w = (s.fireCommit s.link.E F).passWords
      { f with number := s.link.E, header := f.headerWord s.link.E s.cmd.address w, bank := s.map.active.other }
      [f.headerWord s.link.E s.cmd.address w] [f.headerWord s.link.E s.cmd.address w] := by
  have hfires : State.fireIfDue { s with map := s.map.atHeader } = s.fireCommit s.link.E F := by
    rw [MapStore.atHeader_eq hr]
    exact State.fireIfDue_fires hc hd
  unfold State.headerTime
  dsimp only
  rw [hfires]
  rfl

/-- A COMMIT_FIRE is the header time where a commit fires, and does not come about elsewhere (R70; assumption 2). -/
theorem exec_commitFire_eq (w : Word) (hup : s.resetHeld = false) (hf : s.frame = some f) (hp : f.pos = 1)
    (hc : s.map.commit = some F) : exec (.commitFire w) s =
      .next (if (s.link.E - F).toNat < 131072 then s.headerTime f w else s) := by
  simp only [exec, execCommitFire, happens_up hup, State.frameAt_eq_some.2 ⟨hf, hp⟩]
  split_ifs with hd
  · rw [MapStore.firing_eq_some.2 ⟨hc, hd⟩]
  · have hn : s.map.firing s.link.E = none := Option.eq_none_iff_forall_ne_some.2 fun G hG => by
      obtain ⟨hg, hlt⟩ := MapStore.firing_eq_some.1 hG
      cases hc.symm.trans hg
      exact hd hlt
    rw [hn]

/-- What a commit makes of an output channel, by the banks that name it (R83). -/
theorem State.fireCommit_output (s : State) (n F : FrameNumber) (c : Channel) :
    (Names s.map.shadow c → Names (s.map.bank s.map.active) c → (s.fireCommit n F).outputs[c] = s.outputs[c])
      ∧ (Names s.map.shadow c → ¬Names (s.map.bank s.map.active) c → (s.fireCommit n F).outputs[c] = .safe)
      ∧ (¬Names s.map.shadow c → (s.fireCommit n F).outputs[c] = .unassigned) := by
  simp only [← namesOutput_iff, State.fireCommit_outputs, Fin.getElem_fin, Vector.getElem_ofFn, Fin.eta]
  cases namesOutput s.map.shadow c <;> cases namesOutput (s.map.bank s.map.active) c <;>
    simp [OutputChannel.reassign]

end

/-- Settles O11: both rows are the header time, which is the firing and one word that passes. -/
theorem commitFiresAtTheHeader : Obligations.CommitFiresAtTheHeader := by
  unfold Obligations.CommitFiresAtTheHeader
  intro s f w F hup hf hp hc
  have hfire := exec_commitFire_eq w hup hf hp hc
  refine ⟨fun hd hr i hi => ?_, fun hd => by rw [hfire, if_neg (Nat.not_lt.2 hd)]⟩
  have hexec : exec i s = .next (s.headerTime f w) := by
    rcases hi with rfl | rfl
    · exact exec_headerTime_eq w hup hf hp
    · rw [hfire, if_pos hd]
  refine ⟨_, f.headerWord s.link.E s.cmd.address w, hexec, ?_⟩
  rw [State.headerTime_fires hc hd hr]
  refine ⟨rfl, rfl, fun hg => ?_, fun hg => ?_, rfl, fun c => s.fireCommit_output s.link.E F c, rfl, rfl⟩
  · simp [FrameInFlight.headerWord, hg]
  · simp [FrameInFlight.headerWord, hg]

end Sys2Proof.Machine
end

section
/-! PROOFS. The completion of a running copy (O30): at a frame end without a command that alone reaches the map, and the
response record where it was not written (R65). -/

namespace Sys2Proof.Machine

/-! ### The works without the command (R96) -/

/-- The works of a frame end stand around its command as its order does. -/
theorem worked_of_endItems {e : FrameClose} {after : List EndItem}
    (h : endItems e = (endItems e).takeWhile (· != .command) ++ .command :: after) (f : FrameInFlight) (s : State) :
    Closing.worked f e s = (Closing.beforeCommand f e s).command.meet after := by
  unfold Closing.worked
  conv_lhs => rw [h]
  exact (Closing.begin f e s).meet_append _ _

section
variable {s : State} {f : FrameInFlight} {e : FrameClose}

/-- Where there is no command the works are those that the command stands between. -/
theorem NoCommand.worked_eq (h : NoCommand s) (f : FrameInFlight) (e : FrameClose) :
    ∃ items, EndItem.command ∉ items ∧ EndItem.copyCompletion ∈ items
      ∧ Closing.worked f e s = (Closing.begin f e s).meet items := by
  obtain ⟨after, he, hb, ha⟩ := endItems_split e
  refine ⟨(endItems e).takeWhile (· != .command) ++ after, by simp [hb, ha], ?_, ?_⟩
  · have hmem := mem_endItems e .copyCompletion
    rw [he] at hmem
    simpa using hmem
  · rw [worked_of_endItems he, h.command_eq, Closing.meet_append]
    rfl

/-- A frame end without a command leaves the record as the copy that has completed makes it (R65). -/
theorem NoCommand.closeFrame_record (h : NoCommand s) (hi : s.arb.item ≠ .response) :
    (closeFrame f e s).s.cmd.response = s.copiedRecord
      ∧ (closeFrame f e s).s.map = { s.map with copy := none } := by
  obtain ⟨-, -, -, -, hmap, -, -, hcmd, -⟩ := Closing.count_state (Closing.settled f e s)
  obtain ⟨items, hcommand, hcopy, hw⟩ := h.worked_eq f e
  obtain ⟨hresp, -⟩ := Closing.meet_unwritten (w := Closing.begin f e s) hcommand (by simpa using hi)
  rw [if_pos hcopy] at hresp
  have hrecord : (Closing.begin f e s).s.copiedRecord = s.copiedRecord := by simp [State.copiedRecord]
  rw [h.closeFrame_eq, hcmd, hmap, settled_eq_deliver, hw]
  exact ⟨hresp.trans hrecord, (Closing.meet_copy _ hcopy).trans (by rw [Closing.begin_map])⟩

/-! ### The completion of a copy (R65) -/

/-- A work other than the command notes a completed copy where it is the completion and a copy runs. -/
theorem Closing.item_copied (w : Closing) {i : EndItem} (h : i ≠ .command) :
    (w.item i).copied = (w.copied || decide (i = .copyCompletion) && w.s.map.copy.isSome) := by
  cases i with
  | command => exact absurd rfl h
  | copyCompletion =>
    show w.copyCompletion.copied = _
    unfold Closing.copyCompletion
    split <;> simp [*]
  | jumpRaise =>
    show w.jumpRaise.copied = _
    unfold Closing.jumpRaise
    split <;> simp
  | expiryRaise =>
    show w.expiryRaise.copied = _
    unfold Closing.expiryRaise
    split <;> simp
  | resend | delivery => simp [Closing.item, Closing.resend, Closing.delivery]

/-- The map stands through the works before the copy's completion that are not the command. -/
theorem Closing.meet_map_stands (w : Closing) {items : List EndItem} (hc : EndItem.command ∉ items)
    (hd : EndItem.copyCompletion ∉ items) : (w.meet items).s.map = w.s.map := by
  unfold Closing.meet
  induction items generalizing w with
  | nil => rfl
  | cons i rest ih =>
    obtain ⟨hi, hrest⟩ := List.ne_and_not_mem_of_not_mem_cons hc
    obtain ⟨hj, hrest'⟩ := List.ne_and_not_mem_of_not_mem_cons hd
    rw [List.foldl_cons, ih _ hrest hrest']
    by_cases hdel : i = .delivery
    · subst hdel
      exact State.settleItem_map ..
    · exact (w.item_bystander hdel hj.symm hi.symm).2.2

/-- Among works without the command a completion completes the copy that runs, and no other completes. -/
theorem Closing.meet_copied (w : Closing) {items : List EndItem} (h : EndItem.command ∉ items) :
    (w.meet items).copied = (w.copied || decide (EndItem.copyCompletion ∈ items) && w.s.map.copy.isSome) := by
  unfold Closing.meet
  induction items generalizing w with
  | nil => simp
  | cons i rest ih =>
    obtain ⟨hi, hrest⟩ := List.ne_and_not_mem_of_not_mem_cons h
    rw [List.foldl_cons, ih _ hrest, w.item_copied hi.symm]
    by_cases hc : i = .copyCompletion
    · subst hc
      show (_ || _ && w.copyCompletion.s.map.copy.isSome) = _
      rw [w.copyCompletion_eq.2.2]
      simp
    · have hmap : (w.item i).s.map = w.s.map :=
        Closing.meet_map_stands w (items := [i]) (by simpa using hi) (by simpa using Ne.symm hc)
      simp [hmap, hc, Ne.symm hc]

theorem Closing.begin_copied (f : FrameInFlight) (e : FrameClose) (s : State) :
    (Closing.begin f e s).copied = false := by
  unfold Closing.begin Closing.schedule; split <;> rfl

/-- A frame end without a command completes a copy exactly where one runs (R65). -/
theorem NoCommand.closeFrame_copied (h : NoCommand s) : (closeFrame f e s).copied = s.map.copy.isSome := by
  obtain ⟨items, hcommand, hcopy, hw⟩ := h.worked_eq f e
  obtain ⟨l, o, n, hbefore⟩ := (Closing.settled f e s).beforeCapture_eq
  have hcounted : (closeFrame f e s).copied = (Closing.worked f e s).copied := by
    show (Closing.settled f e s).beforeCapture.copied = _
    rw [hbefore]
    rfl
  rw [hcounted, hw, Closing.meet_copied _ hcommand]
  simp [Closing.begin_copied, hcopy]

end

/-- The answer of a completed copy: OK and the source bank, 0 for A and 1 for B (R65). -/
theorem State.copiedRecord_pending {s : State} {src : Bank} {q : SequenceNumber} {t : Tag} (hc : s.map.copy = some src)
    (hr : s.cmd.response = .pending q t) :
    s.copiedRecord = .unsent { seq := q, tag := t, status := .ok, data := [if src = .b then 1 else 0] } := by
  cases src <;> simp [State.copiedRecord, hc, hr, ResponseRecord.copyDone, numWord, once, Bank.bit]

theorem exec_copyComplete_eq {s : State} {f : FrameInFlight} (e : FrameClose) (h : AtEnd s f) (hn : NoCommand s) :
    exec (.copyComplete e) s = .next (if s.map.copy.isSome then (closeFrame f e s).s else s) := by
  show happens s (atFrameEnd Closing.copied e s) = _
  rw [happens_up h.up, atFrameEnd_eq h.flight h.last, hn.closeFrame_copied]

/-- Settles O30: the completion is one work of the frame end, and the slots that have passed are all the slots. -/
theorem copyCompletesAtTheFrameEnd : Obligations.CopyCompletesAtTheFrameEnd := by
  unfold Obligations.CopyCompletesAtTheFrameEnd
  intro s f e h hn
  have hexec := exec_copyComplete_eq e h hn
  refine ⟨fun src q t hc hk hr hi => ?_, fun hc => by rw [hexec, hc]; rfl⟩
  obtain ⟨hresp, hmap⟩ := hn.closeFrame_record (f := f) (e := e) hi
  refine ⟨_, by rw [hexec, hc]; rfl, exec_frameEnd_eq e h, hmap, fun i => ?_,
    hresp.trans (State.copiedRecord_pending hc hr)⟩
  rw [hmap]
  have hpassed : i.val + 2 < f.pos := by
    have hslot := i.isLt
    have hlast := h.last
    omega
  exact hk (by simp [hc]) f h.flight i hpassed

end Sys2Proof.Machine
end

section
/-! PROOFS. A unicast that the sequence record does not let through (O32): a retry reopens a SENT record, an overrun
leaves marks, and neither is executed (R97, R100, R101). -/

namespace Sys2Proof.Machine

/-! ### A frame end under another response record -/

/-- The frame end with another response record. -/
def Closing.recorded (w : Closing) (x : ResponseRecord) : Closing :=
  { w with s := { w.s with cmd := { w.s.cmd with response := x } } }

/-- Neither a delivery nor a copy can reach the record: the response was not written, and the record is not PENDING. -/
structure Closing.Unreached (w : Closing) : Prop where
  item : w.s.arb.item ≠ .response
  record : ∀ q t, w.s.cmd.response ≠ .pending q t

theorem ResponseRecord.copyDone_eq {x : ResponseRecord} (h : ∀ q t, x ≠ .pending q t) (src : Bank) :
    x.copyDone src = x := by
  cases x with
  | pending q t => exact absurd rfl (h q t)
  | empty | unsent _ | sent _ => rfl

/-- A work other than the command treats such records alike. -/
theorem Closing.Unreached.item_recorded {w : Closing} (h : w.Unreached) {x : ResponseRecord}
    (hx : ∀ q t, x ≠ .pending q t) {i : EndItem} (hi : i ≠ .command) :
    (w.recorded x).item i = (w.item i).recorded x ∧ (w.item i).Unreached := by
  cases i with
  | command => exact absurd rfl hi
  | resend => exact ⟨rfl, h.item, h.record⟩
  | delivery =>
    show Closing.delivery _ = Closing.recorded (Closing.delivery _) x ∧ w.delivery.Unreached
    obtain ⟨hcmd, harb, -⟩ := Closing.delivery_unwritten h.item
    refine ⟨?_, by rw [harb]; simp, by rw [hcmd]; exact h.record⟩
    unfold Closing.delivery State.settleItem Closing.recorded
    dsimp only
    split
    · rfl
    · rfl
    · next hr => exact absurd hr h.item
  | jumpRaise =>
    show Closing.jumpRaise _ = Closing.recorded (Closing.jumpRaise _) x ∧ w.jumpRaise.Unreached
    unfold Closing.jumpRaise Closing.recorded
    dsimp only
    split <;> exact ⟨rfl, h.item, h.record⟩
  | expiryRaise =>
    show Closing.expiryRaise _ = Closing.recorded (Closing.expiryRaise _) x ∧ w.expiryRaise.Unreached
    unfold Closing.expiryRaise Closing.recorded
    dsimp only
    split <;> exact ⟨rfl, h.item, h.record⟩
  | copyCompletion =>
    show Closing.copyCompletion _ = Closing.recorded (Closing.copyCompletion _) x ∧ w.copyCompletion.Unreached
    unfold Closing.copyCompletion Closing.recorded
    dsimp only
    split
    · rw [ResponseRecord.copyDone_eq hx, ResponseRecord.copyDone_eq h.record]
      exact ⟨rfl, h.item, h.record⟩
    · exact ⟨rfl, h.item, h.record⟩

theorem Closing.Unreached.meet_recorded {w : Closing} (h : w.Unreached) {x : ResponseRecord}
    (hx : ∀ q t, x ≠ .pending q t) {items : List EndItem} (hi : EndItem.command ∉ items) :
    (w.recorded x).meet items = (w.meet items).recorded x := by
  unfold Closing.meet
  induction items generalizing w with
  | nil => rfl
  | cons i rest ih =>
    obtain ⟨hne, hrest⟩ := List.ne_and_not_mem_of_not_mem_cons hi
    obtain ⟨hitem, hnext⟩ := h.item_recorded hx hne.symm
    rw [List.foldl_cons, List.foldl_cons, hitem, ih hnext hrest]

/-- The counting does not read the record. -/
theorem Closing.count_recorded (w : Closing) (x : ResponseRecord) :
    (w.recorded x).deliver.count.s
      = { w.deliver.count.s with cmd := { w.deliver.count.s.cmd with response := x } } := by
  unfold Closing.count State.captureStep
  generalize hk : w.deliver.s.snaps.outcome (w.deliver.causes w.deliver.s.counters) = k
  have hk' : (w.recorded x).deliver.s.snaps.outcome
      ((w.recorded x).deliver.causes (w.recorded x).deliver.s.counters) = k := hk
  dsimp only
  rw [hk, hk']
  cases k <;> rfl

/-! ### The frame end of a retry (R97, R100) -/

theorem beforeCommand_withoutCommand (f : FrameInFlight) (e : FrameClose) (s : State) :
    Closing.beforeCommand f e s.withoutCommand = (Closing.beforeCommand f e s).marked s.quietMarks := by
  obtain ⟨-, -, hb, -⟩ := endItems_split e
  have hbegin : Closing.begin f e s.withoutCommand = (Closing.begin f e s).marked s.quietMarks := by
    rw [Closing.begin_withoutCommand, Closing.begin_marks]
    rfl
  rw [Closing.beforeCommand, hbegin, Closing.meet_marked _ _ hb]
  rfl

/-- The works of a frame end without its command are those that stand around the command. -/
theorem settled_withoutCommand (f : FrameInFlight) (s : State) {e : FrameClose} {after : List EndItem}
    (he : endItems e = (endItems e).takeWhile (· != .command) ++ .command :: after) (ha : EndItem.command ∉ after) :
    Closing.settled f e s.withoutCommand
      = (((Closing.beforeCommand f e s).meet after).marked s.quietMarks).deliver := by
  rw [settled_eq_deliver, worked_of_endItems he, beforeCommand_withoutCommand, Closing.command_none rfl,
    Closing.meet_marked _ _ ha]

section
variable {s : State} {f : FrameInFlight} {e : FrameClose} {r : Request}

/-- A frame end whose command leaves marks and another record, one that neither delivery nor copy reaches: the same but
for the answer as the frame end without it, and the record stands. -/
theorem closeFrame_of_recorded {m : CommandMarks} {x : ResponseRecord}
    (h : (Closing.beforeCommand f e s).command = ((Closing.beforeCommand f e s).marked m).recorded x)
    (hm : m.taking = .nothing) (hx : ∀ q t, x ≠ .pending q t) (hw : (Closing.beforeCommand f e s).Unreached) :
    (closeFrame f e s).s.cmd.response = x ∧ (closeFrame f e s).s.cmd.broadcastSeq = m.broadcastSeq
      ∧ SameButForTheAnswer s (closeFrame f e s).s (closeFrame f e s.withoutCommand).s := by
  obtain ⟨after, he, -, ha⟩ := endItems_split e
  have hmarked : ((Closing.beforeCommand f e s).marked m).Unreached := ⟨hw.item, hw.record⟩
  have hsettled : Closing.settled f e s
      = ((((Closing.beforeCommand f e s).meet after).marked m).recorded x).deliver := by
    rw [settled_eq_deliver, worked_of_endItems he, h, hmarked.meet_recorded hx ha, Closing.meet_marked _ _ ha]
  generalize hv : (Closing.beforeCommand f e s).meet after = v at hsettled
  have hsame : (Closing.begin f e s).SameElsewhere v := hv ▸ (Closing.meet_same ..).trans (Closing.meet_same ..)
  have hidle : m.taking.Idle := hm ▸ Taking.idle_nothing
  have hu : (closeFrame f e s).s = { (v.marked m).deliver.count.s with
      cmd := { (v.marked m).deliver.count.s.cmd with response := x } } := by
    rw [closeFrame_idle hsettled hidle, ← Closing.count_recorded]
    show m.taking.run _ _ = _
    rw [hm]
    rfl
  have hq : (closeFrame f e s.withoutCommand).s = (v.marked s.quietMarks).deliver.count.s :=
    closeFrame_idle (hv ▸ settled_withoutCommand f s he ha) Taking.idle_nothing
  obtain ⟨-, -, -, -, -, -, -, hcmd, -⟩ := v.counted_state m rfl
  refine ⟨by rw [hu], by rw [hu, hcmd], ?_⟩
  rw [hu, hq]
  exact (counted_same hsame hidle Taking.idle_nothing rfl rfl).of_responses x _

/-- A unicast with the sequence of a SENT record offers it again, and does nothing else (R97, R100). -/
theorem closeFrame_retry {a : Answer} (h : AtGoodEnd s f e) (hr : s.cmd.inFlight = some r) (hc : r.cls = .unicast)
    (hi : s.arb.item ≠ .response) (hx : s.cmd.response = .sent a) (hseq : a.seq = r.seq) :
    (closeFrame f e s).s.cmd.response = .unsent a ∧ (closeFrame f e s).s.cmd.broadcastSeq = s.cmd.broadcastSeq
      ∧ SameButForTheAnswer s (closeFrame f e s).s (closeFrame f e s.withoutCommand).s := by
  have hmarks := Closing.beforeCommand_marks f e s
  have hresp : (Closing.beforeCommand f e s).s.cmd.response = .sent a :=
    (Closing.beforeCommand_response (.inr ⟨a, hx⟩)).trans hx
  obtain ⟨-, -, hb, -⟩ := endItems_split e
  obtain ⟨-, -, hitem⟩ := Closing.meet_unwritten (w := Closing.begin f e s) hb (by simpa using hi)
  have hcommand : (Closing.beforeCommand f e s).command = ((Closing.beforeCommand f e s).marked
      { (Closing.beforeCommand f e s).marks with
        amounts := { taken := false, refused := false, overrun := false, resent := true } }).recorded (.unsent a) := by
    rw [(Closing.command_taken (takenRequest_eq h hr (by simp [hc]))).1 hc, Closing.takeUnicast, hresp]
    simp only [ResponseRecord.receive, hseq, beq_self_eq_true, if_true, State.reopenResponse, hresp]
    rfl
  obtain ⟨hu, hs, hsame⟩ := closeFrame_of_recorded hcommand (congrArg CommandMarks.taking hmarks) (by simp)
    ⟨hitem, by simp [hresp]⟩
  exact ⟨hu, hs.trans (congrArg CommandMarks.broadcastSeq hmarks), hsame⟩

/-! ### The frame end of an overrun (R97, R101) -/

/-- The record is PENDING or UNSENT: it lets no unicast through (R97). -/
def ResponseRecord.Open (x : ResponseRecord) : Prop := (∃ a, x = .unsent a) ∨ ∃ q t, x = .pending q t

theorem ResponseRecord.Open.receive {x : ResponseRecord} (h : x.Open) (q : SequenceNumber) :
    x.receive q = .nothing ∨ x.receive q = .overrun := by
  rcases h with ⟨a, rfl⟩ | ⟨p, t, rfl⟩ <;> exact (ite_eq_or_eq ..)

theorem State.copiedRecord_open (h : s.cmd.response.Open) : s.copiedRecord.Open := by
  unfold State.copiedRecord
  split
  · rcases h with ⟨a, h⟩ | ⟨q, t, h⟩ <;> rw [h] <;> exact .inl ⟨_, rfl⟩
  · exact h

/-- A record that is PENDING or UNSENT is met so, the copy's completion included, where it was not written (R101). -/
theorem beforeCommand_open (h : s.cmd.response.Open) (hi : s.arb.item ≠ .response) :
    (Closing.beforeCommand f e s).s.cmd.response.Open := by
  obtain ⟨-, -, hb, -⟩ := endItems_split e
  obtain ⟨hmet, -⟩ := Closing.meet_unwritten (w := Closing.begin f e s) hb (by simpa using hi)
  have hbegin : (Closing.begin f e s).s.cmd.response.Open := by simpa using h
  rw [Closing.beforeCommand, hmet]
  split
  · exact State.copiedRecord_open hbegin
  · exact hbegin

/-- A unicast that meets a PENDING or UNSENT record leaves marks alone, and nothing is executed (R97). -/
theorem closeFrame_overrun (h : AtGoodEnd s f e) (hr : s.cmd.inFlight = some r) (hc : r.cls = .unicast)
    (hi : s.arb.item ≠ .response) (hx : s.cmd.response.Open) :
    (closeFrame f e s).s.cmd.response = (closeFrame f e s.withoutCommand).s.cmd.response
      ∧ (closeFrame f e s).s.cmd.broadcastSeq = s.cmd.broadcastSeq
      ∧ SameButForTheAnswer s (closeFrame f e s).s (closeFrame f e s.withoutCommand).s := by
  have hmarks := Closing.beforeCommand_marks f e s
  have hcommand : ∃ a, (Closing.beforeCommand f e s).command = (Closing.beforeCommand f e s).marked
      { (Closing.beforeCommand f e s).marks with amounts := a } := by
    rw [(Closing.command_taken (takenRequest_eq h hr (by simp [hc]))).1 hc, Closing.takeUnicast]
    rcases (beforeCommand_open hx hi).receive r.seq with hq | hq <;> rw [hq] <;> exact ⟨_, rfl⟩
  obtain ⟨a, hcommand⟩ := hcommand
  have htaking : (Closing.beforeCommand f e s).marks.taking = .nothing := congrArg CommandMarks.taking hmarks
  obtain ⟨hsame, k, v, hu, hs, hresp⟩ := closeFrame_of_marked hcommand (htaking ▸ Taking.idle_nothing)
  dsimp only at hu
  rw [htaking] at hu
  exact ⟨by rw [hu]; exact hresp, by rw [hu]; exact hs.trans (congrArg CommandMarks.broadcastSeq hmarks), hsame⟩

end

theorem State.withoutCommand_noCommand (s : State) : NoCommand s.withoutCommand := by
  intro r hr
  cases hr

/-- Settles O32: a retry reopens the record, an overrun leaves marks, and the copy alone reaches the record beside. -/
theorem retriesAndOverrunsAreNotExecuted : Obligations.RetriesAndOverrunsAreNotExecuted := by
  unfold Obligations.RetriesAndOverrunsAreNotExecuted
  intro s f e r h hr hc hi
  have overrun := closeFrame_overrun h hr hc hi
  obtain ⟨hrecord, hmap⟩ := s.withoutCommand_noCommand.closeFrame_record (f := f) (e := e) hi
  have hcopied : s.withoutCommand.copiedRecord = s.copiedRecord := rfl
  refine ⟨_, _, exec_frameEnd_eq e h.toAtEnd, exec_frameEnd_eq e h.toAtEnd.withoutCommand,
    fun a hx hseq => closeFrame_retry h hr hc hi hx hseq, overrun, fun a hx => ?_, fun sq t hx => ⟨fun hn => ?_,
    fun src hcopy => ?_⟩⟩
  · obtain ⟨hresp, -⟩ := overrun (.inl ⟨a, hx⟩)
    rw [hresp, hrecord, hcopied, State.copiedRecord_unsent hx]
  · obtain ⟨hresp, -⟩ := overrun (.inr ⟨sq, t, hx⟩)
    rw [hresp, hrecord, hcopied, State.copiedRecord_idle hn, hx]
  · obtain ⟨hresp, -, hsame⟩ := overrun (.inr ⟨sq, t, hx⟩)
    rw [hsame.map, hresp, hrecord, hcopied, State.copiedRecord_pending hcopy hx]
    exact ⟨hmap, rfl⟩

end Sys2Proof.Machine
end

section
/-! SUPPORT. The row of a command that is executed: the frame end that takes it, where it is accepted and where it is
refused (R96 to R98, R102). -/

namespace Sys2Proof.Machine

section
variable {s : State} {f : FrameInFlight} {e : FrameClose} {r : Request} {n : CommandName}

/-- The row of a command is the frame end that executes it (R96; assumption 2). -/
theorem Carries.exec_eq (h : Carries s f e r n) : exec (commandRow n r e) s = .next (closeFrame f e s).s := by
  have row : ∀ q : Request → Bool, q r = true → happens s (commandAt n q e s) = .next (closeFrame f e s).s :=
    fun q hq => by rw [happens_up h.toAtGoodEnd.up, h.commandAt_eq hq]
  cases n
  case gate =>
    unfold commandRow
    dsimp only
    split
    · next hp => exact row _ (by simp [hp])
    · next hp => exact row _ (by simpa using hp)
  case takeSnapshot =>
    unfold commandRow
    dsimp only
    split
    · next hp => exact row _ (by simp [hp])
    · next hp => exact row _ (by simp [hp])
  all_goals exact row _ rfl

/-- A command that passes its checks acts on the node as the frame end has counted it, and is answered (R102). -/
theorem Carries.closeFrame_accepted (h : Carries s f e r n) (hn : r.cls = .broadcast → BroadcastName (some n))
    (hc : checkCommand n r (metByCommand s f e) = none) :
    ∃ k, (closeFrame f e s).s = (doCommand n r k (countedState f e s)).1.answer r
      (okAnswer n r (doCommand n r k (countedState f e s)).2) := by
  have htaking : (Closing.settled f e s).taking = .accepted r n := by
    rw [settled_taking, h.command_eq hn hc]
    rfl
  refine ⟨(Closing.settled f e s).capture, ?_⟩
  rw [closeFrame_eq_run, htaking]
  rfl

/-- An accepted command leaves the map that it makes of the counted one, and a unicast its answer (R98, R102). -/
theorem Carries.accepted_result (h : Carries s f e r n) (hn : r.cls = .broadcast → BroadcastName (some n))
    (hc : checkCommand n r (metByCommand s f e) = none) :
    ∃ k, (closeFrame f e s).s.map = (doCommand n r k (countedState f e s)).1.map
      ∧ (r.cls = .unicast → (closeFrame f e s).s.cmd.response
          = okAnswer n r (doCommand n r k (countedState f e s)).2) := by
  obtain ⟨k, hu⟩ := h.closeFrame_accepted hn hc
  refine ⟨k, by rw [hu, State.answer_map], fun hcls => ?_⟩
  rw [hu, State.answer_response _ (.inl hcls)]

/-- A command that fails a check is refused, as a unicast with its refusal for an answer; it leaves the map alone, and
a running copy completes (R57, R65, R102). -/
theorem Carries.refused_result (h : Carries s f e r n) (hn : r.cls = .broadcast → BroadcastName (some n)) {st : Status}
    {data : List Word} (hc : checkCommand n r (metByCommand s f e) = some (st, data)) :
    AnsweredIfUnicast (closeFrame f e s).s r st data ∧ (closeFrame f e s).s.map = { s.map with copy := none } := by
  obtain ⟨hheld, hname, hcls⟩ := h.held
  have hv : Refuses (Closing.beforeCommand f e s).s r st data := .inr ⟨n, hname, hc⟩
  have htaken := takenRequest_eq h.toAtGoodEnd hheld hcls
  have htaking : (Closing.settled f e s).taking = .turned r (st, data) := by
    rw [settled_taking]
    rcases h with h | h
    · have hset : s.cmd.response.Settled := h.unseen.imp_right fun ⟨a, ha, _⟩ => ⟨a, ha⟩
      rw [(Closing.command_taken htaken).1 h.unicast,
        Closing.takeUnicast_refused (by rw [Closing.beforeCommand_response hset]; exact h.unseen) hv]
      rfl
    · have hseq : (Closing.beforeCommand f e s).s.cmd.broadcastSeq = s.cmd.broadcastSeq :=
        congrArg CommandMarks.broadcastSeq (Closing.beforeCommand_marks f e s)
      rw [(Closing.command_taken htaken).2 h.broadcast,
        Closing.takeBroadcast_refused (by rw [hseq]; exact h.unseen) (hname ▸ hn h.broadcast) hv]
      rfl
  have hu : (closeFrame f e s).s = (countedState f e s).answer r
      (.unsent { seq := r.seq, tag := r.tag, status := st, data := data }) := by
    rw [closeFrame_eq_run, htaking]
    rfl
  rw [hu]
  exact ⟨fun hcls => State.answer_response _ (.inl hcls) _, (State.answer_map ..).trans (countedState_map f e s)⟩

/-- Without a running copy the command meets the map as it stands, and so does its execution. -/
theorem maps_idle (hcopy : s.map.copy = none) (f : FrameInFlight) (e : FrameClose) :
    { s.map with copy := none } = s.map ∧ (metByCommand s f e).map = s.map ∧ (countedState f e s).map = s.map := by
  have hm : { s.map with copy := none } = s.map := by rw [← hcopy]
  refine ⟨hm, ?_, (countedState_map f e s).trans hm⟩
  rcases metByCommand_map f e s with hmet | hmet
  · exact hmet
  · exact hmet.trans hm

theorem Carries.refused_idle (h : Carries s f e r n) (hn : r.cls = .broadcast → BroadcastName (some n))
    (hcopy : s.map.copy = none) {st : Status} {data : List Word}
    (hc : checkCommand n r (metByCommand s f e) = some (st, data)) :
    AnsweredIfUnicast (closeFrame f e s).s r st data ∧ (closeFrame f e s).s.map = s.map := by
  obtain ⟨ha, hm⟩ := h.refused_result hn hc
  obtain ⟨hidle, -⟩ := maps_idle hcopy f e
  exact ⟨ha, hm.trans hidle⟩

theorem Executes.not_broadcast (h : Executes s f e r n) : r.cls = .broadcast → BroadcastName (some n) := fun hb => by
  simp [h.unicast] at hb

/-- A unicast that is refused draws its refusal, and leaves the map where no copy runs (R57, R102). -/
theorem Executes.refused_idle (h : Executes s f e r n) (hcopy : s.map.copy = none) {st : Status} {data : List Word}
    (hc : checkCommand n r (metByCommand s f e) = some (st, data)) :
    Answered (closeFrame f e s).s r st data ∧ (closeFrame f e s).s.map = s.map := by
  obtain ⟨ha, hm⟩ := Carries.refused_idle (.inl h) h.not_broadcast hcopy hc
  exact ⟨ha h.unicast, hm⟩

/-- A unicast that is accepted makes its own of the counted map, and is answered (R102). -/
theorem Executes.accepted_result (h : Executes s f e r n) (hc : checkCommand n r (metByCommand s f e) = none) :
    ∃ k, (closeFrame f e s).s.map = (doCommand n r k (countedState f e s)).1.map
      ∧ (closeFrame f e s).s.cmd.response = okAnswer n r (doCommand n r k (countedState f e s)).2 := by
  obtain ⟨k, hm, ha⟩ := Carries.accepted_result (.inl h) h.not_broadcast hc
  exact ⟨k, hm, ha h.unicast⟩

end

end Sys2Proof.Machine
end

section
/-! PROOFS. COPY ACTIVE and CANCEL COMMIT (O45). -/

namespace Sys2Proof.Machine

section
variable {r : Request} {t : State}

/-- The checks of COPY ACTIVE in order, where no copy runs (R63). -/
theorem checkCopyActive_eq (hc : t.map.copy = none) : checkCopyActive r t =
    if r.count ≠ 0 then some (.badParameter, [])
    else if t.map.commit ≠ none then some (.commitLocked, []) else none := by
  by_cases h0 : r.count = 0 <;> cases hm : t.map.commit <;> simp [checkCopyActive, require, h0, hm, hc]

/-- The checks of CANCEL COMMIT in order (R72). -/
theorem checkCancelCommit_eq (r : Request) (t : State) : checkCancelCommit r t =
    if r.count ≠ 0 then some (.badParameter, [])
    else if t.map.commit = none then some (.notArmed, []) else none := by
  by_cases h0 : r.count = 0 <;> cases hm : t.map.commit <;> simp [checkCancelCommit, require, h0, hm]

end

section
variable {s : State} {f : FrameInFlight} {e : FrameClose} {r : Request}

/-- What COPY ACTIVE comes to, as R63 checks it. -/
theorem copyActive_result (h : Executes s f e r .copyActive) (hc : s.map.copy = none) :
    (r.count = 0 → s.map.commit = none → (closeFrame f e s).s.cmd.response = .pending r.seq r.tag
        ∧ (closeFrame f e s).s.map = { s.map with copy := some s.map.active })
      ∧ (r.count ≠ 0 → Answered (closeFrame f e s).s r .badParameter [] ∧ (closeFrame f e s).s.map = s.map)
      ∧ (r.count = 0 → s.map.commit ≠ none →
          Answered (closeFrame f e s).s r .commitLocked [] ∧ (closeFrame f e s).s.map = s.map) := by
  obtain ⟨-, hmet, hcounted⟩ := maps_idle hc f e
  have hcheck : checkCommand .copyActive r (metByCommand s f e) = _ := checkCopyActive_eq (by rw [hmet, hc])
  rw [hmet] at hcheck
  refine ⟨fun h0 hm => ?_, fun h0 => h.refused_idle hc (hcheck.trans (if_pos h0)),
    fun h0 hm => h.refused_idle hc (hcheck.trans (by simp [h0, hm]))⟩
  obtain ⟨k, hmap, hanswer⟩ := h.accepted_result (hcheck.trans (by simp [h0, hm]))
  refine ⟨hanswer, hmap.trans ?_⟩
  show { (countedState f e s).map with copy := some (countedState f e s).map.active } = _
  rw [hcounted]

/-- What CANCEL COMMIT comes to, as R72 checks it. -/
theorem cancelCommit_result (h : Carries s f e r .cancelCommit) (hc : s.map.copy = none) :
    (∀ F, r.count = 0 → s.map.commit = some F → AnsweredIfUnicast (closeFrame f e s).s r .ok [F.zeroExtend 32]
        ∧ (closeFrame f e s).s.map = { s.map with commit := none })
      ∧ (r.count = 0 → s.map.commit = none →
          AnsweredIfUnicast (closeFrame f e s).s r .notArmed [] ∧ (closeFrame f e s).s.map = s.map)
      ∧ (r.count ≠ 0 →
          AnsweredIfUnicast (closeFrame f e s).s r .badParameter [] ∧ (closeFrame f e s).s.map = s.map) := by
  have hclass : r.cls = .broadcast → BroadcastName (some .cancelCommit) := fun _ => by simp [BroadcastName]
  obtain ⟨-, hmet, hcounted⟩ := maps_idle hc f e
  have hcheck : checkCommand .cancelCommit r (metByCommand s f e) = _ := checkCancelCommit_eq ..
  rw [hmet] at hcheck
  refine ⟨fun F h0 hF => ?_, fun h0 hm => h.refused_idle hclass hc (hcheck.trans (by simp [h0, hm])),
    fun h0 => h.refused_idle hclass hc (hcheck.trans (if_pos h0))⟩
  obtain ⟨k, hmap, hanswer⟩ := h.accepted_result hclass (hcheck.trans (by simp [h0, hF]))
  refine ⟨fun hcls => (hanswer hcls).trans ?_, hmap.trans ?_⟩
  · show ResponseRecord.unsent { seq := r.seq, tag := r.tag, status := .ok
                                 data := [frameWord ((countedState f e s).map.commit.getD 0)] } = _
    rw [hcounted, hF]
    rfl
  · show { (countedState f e s).map with commit := none } = _
    rw [hcounted]

end

/-- Settles O45: each command passes the checks of its rule in order, or is refused with the first that fails. -/
theorem copyStartsAndCommitIsCancelled : Obligations.CopyStartsAndCommitIsCancelled := by
  unfold Obligations.CopyStartsAndCommitIsCancelled
  intro s f e r hc
  exact ⟨fun h => ⟨_, Carries.exec_eq (.inl h), copyActive_result h hc⟩,
    fun h => ⟨_, h.exec_eq, cancelCommit_result h hc⟩⟩

end Sys2Proof.Machine
end

section
/-! PROOFS. WRITE ENTRIES (O43): the entries it carries, its checks, and the shadow bank that it fills. -/

namespace Sys2Proof.Machine

section
variable {r : Request}

/-! ### The entries carried (R7, R58) -/

/-- The six halves of the three entry words, in order (R7). -/
theorem entryHalves_eq (r : Request) :
    (([r.p1, r.p2, r.p3]).map entryHalves).flatten = (List.range 6).map (writtenHalf r) := rfl

/-- A count field of at most 6 carries so many of them (R58). -/
theorem carriedEntries_eq (h : entryCount r.p0 ≤ 6) :
    carriedEntries r = (List.range (entryCount r.p0)).map (writtenHalf r) := by
  rw [carriedEntries, entryHalves_eq, ← List.map_take, List.take_range, Nat.min_eq_left h]

/-! ### The checks (R58, R59) -/

/-- What R58 and the first three checks of R59 require of a WRITE ENTRIES. -/
def WriteFits (r : Request) : Prop :=
  WriteCountFits r.count (entryCount r.p0) ∧ 1 ≤ entryCount r.p0 ∧ entryCount r.p0 ≤ 6
    ∧ entryStart r.p0 + entryCount r.p0 ≤ 64
    ∧ ∀ j, j < entryCount r.p0 → (writtenHalf r j).extractLsb' 13 3 ≠ 7

theorem writeCountOk_iff {count k : Nat} : writeCountOk count k = true ↔ WriteCountFits count k := by
  unfold writeCountOk WriteCountFits
  split <;> simp <;> omega

/-- The entries carried are all entries where none has action code 7 (R59). -/
theorem decodeEntries_carried (h : entryCount r.p0 ≤ 6) : (decodeEntries (carriedEntries r)).isSome = true ↔
    ∀ j, j < entryCount r.p0 → (writtenHalf r j).extractLsb' 13 3 ≠ 7 := by
  rw [decodeEntries_isSome, carriedEntries_eq h]
  simp

/-- A WRITE ENTRIES that fits draws COMMIT_LOCKED while ARMED, and passes otherwise, where no copy runs (R59, R60). -/
theorem checkWriteEntries_of_fits {t : State} (h : WriteFits r) (hc : t.map.copy = none) : checkWriteEntries r t =
    if t.map.commit = none then none else some (.commitLocked, []) := by
  obtain ⟨hcount, h1, h6, hend, haction⟩ := h
  have hentries := (decodeEntries_carried h6).2 haction
  cases hm : t.map.commit <;>
    simp [checkWriteEntries, require, writeCountOk_iff.2 hcount, h1, h6, hend, hentries, hm, hc]

/-- One that does not fit draws BAD_PARAMETER (R58, R59). -/
theorem checkWriteEntries_of_not_fits (h : ¬WriteFits r) (t : State) :
    checkWriteEntries r t = some (.badParameter, []) := by
  unfold checkWriteEntries require
  split
  · next hcount =>
    split
    · next hrange =>
      simp only [Bool.and_eq_true, decide_eq_true_eq] at hrange
      obtain ⟨⟨h1, h6⟩, hend⟩ := hrange
      rw [if_neg fun hentries => h ⟨writeCountOk_iff.1 hcount, h1, h6, hend, (decodeEntries_carried h6).1 hentries⟩]
    · rfl
  · rfl

/-! ### The entries written (R59) -/

/-- A WRITE ENTRIES that fits writes as many entries as its count field says, each the half it carries, bit for bit. -/
theorem WriteFits.entries (h : WriteFits r) : ∃ es, decodeEntries (carriedEntries r) = some es
    ∧ es.length = entryCount r.p0 ∧ ∀ j (hj : j < es.length), es[j].bits = writtenHalf r j := by
  obtain ⟨-, -, h6, -, haction⟩ := h
  obtain ⟨es, hes⟩ := Option.isSome_iff_exists.1 ((decodeEntries_carried h6).2 haction)
  have hbits := decodeEntries_eq_some hes
  rw [carriedEntries_eq h6] at hbits
  refine ⟨es, hes, by simpa using congrArg List.length hbits, fun j hj => ?_⟩
  have hj' : j < (es.map MapEntry.bits).length := by simpa using hj
  have hget := List.getElem_of_eq hbits hj'
  simpa using hget

/-- They stand in the bank written from the start slot on, and every other slot stands (R59). -/
theorem WriteFits.writes (h : WriteFits r) (t : State) :
    ∃ v : MapBank, doWriteEntries r t = ({ t with map := t.map.setBank t.map.active.other v }, [])
      ∧ ∀ i : SlotNumber,
        (entryStart r.p0 ≤ i.val → i.val < entryStart r.p0 + entryCount r.p0 →
          v[i].bits = writtenHalf r (i.val - entryStart r.p0))
        ∧ (i.val < entryStart r.p0 ∨ entryStart r.p0 + entryCount r.p0 ≤ i.val → v[i] = t.map.shadow[i]) := by
  obtain ⟨es, hes, hlength, hbits⟩ := h.entries
  refine ⟨writeFrom t.map.shadow (entryStart r.p0) es, by simp [doWriteEntries, hes], fun i => ?_⟩
  rw [writeFrom_get]
  refine ⟨fun h1 h2 => ?_, fun hout => dif_neg (by omega)⟩
  rw [dif_pos (by omega)]
  exact hbits _ _

theorem MapStore.shadow_setBank (m : MapStore) (v : MapBank) : (m.setBank m.active.other v).shadow = v := by
  rw [MapStore.shadow, MapStore.setBank_active, MapStore.bank_setBank]

end

/-! ### The row -/

/-- Settles O43: a WRITE ENTRIES that fits draws COMMIT_LOCKED or writes its entries, any other BAD_PARAMETER. -/
theorem writeEntriesFillsTheShadowBank : Obligations.WriteEntriesFillsTheShadowBank := by
  unfold Obligations.WriteEntriesFillsTheShadowBank
  rintro s f e r start k h hc rfl rfl
  obtain ⟨-, hmet, hcounted⟩ := maps_idle hc f e
  refine ⟨_, Carries.exec_eq (.inl h), fun hfits => ?_,
    fun hfits => h.refused_idle hc (checkWriteEntries_of_not_fits hfits _)⟩
  have hcheck : checkCommand .writeEntries r (metByCommand s f e) = _ :=
    checkWriteEntries_of_fits hfits (by rw [hmet, hc])
  rw [hmet] at hcheck
  refine ⟨fun hm => ?_, fun hm => h.refused_idle hc (hcheck.trans (if_neg hm))⟩
  obtain ⟨k, hmap, hanswer⟩ := h.accepted_result (hcheck.trans (if_pos hm))
  obtain ⟨v, hwrites, hentries⟩ := WriteFits.writes hfits (countedState f e s)
  have hdone : doCommand .writeEntries r k (countedState f e s) = _ := hwrites
  rw [hcounted] at hdone hentries
  rw [hdone] at hmap hanswer
  refine ⟨hanswer, ?_⟩
  rw [hmap]
  simp only [MapStore.setBank_active, MapStore.bank_setBank_other, MapStore.setBank_commit, MapStore.setBank_copy,
    MapStore.shadow_setBank, hm, hc, true_and]
  exact hentries

end Sys2Proof.Machine
end

section
/-! PROOFS. READ ENTRIES (O44): its checks, and the entries of a bank two to a word. -/

namespace Sys2Proof.Machine

/-- The half of a packed word at which entry `j` stands: bits 31 to 16 for an even one, 15 to 0 for an odd one (R7). -/
def halfAt (j : Nat) : Nat := if j % 2 = 0 then 16 else 0

/-- Entry `j` of those packed stands in its half of word `j / 2` (R7, R62). -/
theorem packEntries_get (es : List MapEntry) (j : Nat) (hj : j < es.length) :
    ((packEntries es).getD (j / 2) 0).extractLsb' (halfAt j) 16 = es[j].bits := by
  induction es using packEntries.induct generalizing j with
  | case1 => simp at hj
  | case2 e =>
    obtain rfl : j = 0 := by simpa using hj
    exact (extract_upper _ _ 16 16 (by decide)).trans (extract_whole _)
  | case3 e f rest ih =>
    match j with
    | 0 => exact (extract_upper _ _ 16 16 (by decide)).trans (extract_whole _)
    | 1 => exact (extract_lower _ _ 0 16 (by decide)).trans (extract_whole _)
    | j + 2 =>
      have hword : (j + 2) / 2 = j / 2 + 1 := by omega
      have hhalf : halfAt (j + 2) = halfAt j := by simp [halfAt]
      rw [hword, hhalf]
      exact ih j (by simpa using hj)

/-- The lower half of a last odd word is zero (R62). -/
theorem packEntries_odd (es : List MapEntry) (h : es.length % 2 = 1) :
    ((packEntries es).getD (es.length / 2) 0).extractLsb' 0 16 = 0 := by
  induction es using packEntries.induct with
  | case1 => simp at h
  | case2 e =>
    show ((packEntries [e]).getD (1 / 2) 0).extractLsb' 0 16 = 0
    rw [Nat.div_eq_of_lt (by decide)]
    exact (extract_lower e.bits 0#16 0 16 (by decide)).trans (extract_whole _)
  | case3 e f rest ih =>
    have hword : (e :: f :: rest).length / 2 = rest.length / 2 + 1 := by simp; omega
    rw [hword]
    exact ih (by simpa [Nat.add_mod_right, Nat.add_assoc] using h)

/-- The words of `k` entries of a bank from slot `start` on: half as many, rounded up, the entries two to a word, and a
zero lower half of a last odd one (R62). -/
theorem readWords_eq (v : MapBank) {start k : Nat} (h : start + k ≤ 64) :
    let data := packEntries ((v.toList.drop start).take k)
    data.length = (k + 1) / 2
      ∧ (∀ (j : Nat) (i : SlotNumber), j < k → i.val = start + j →
          (data.getD (j / 2) 0).extractLsb' (if j % 2 = 0 then 16 else 0) 16 = v[i].bits)
      ∧ (k % 2 = 1 → (data.getD (k / 2) 0).extractLsb' 0 16 = 0) := by
  have hlength : ((v.toList.drop start).take k).length = k := by simp; omega
  refine ⟨by rw [packEntries_length, hlength], fun j i hj hi => ?_, fun hodd => ?_⟩
  · have hentry : ((v.toList.drop start).take k)[j]'(by omega) = v[i] := by simp [hi]
    rw [← hentry]
    exact packEntries_get _ j (by omega)
  · have htail := packEntries_odd ((v.toList.drop start).take k) (by rw [hlength]; exact hodd)
    rwa [hlength] at htail

/-- The check of READ ENTRIES (R61). -/
theorem checkReadEntries_eq (r : Request) : checkReadEntries r =
    if r.count = 1 ∧ 1 ≤ entryCount r.p0 ∧ entryCount r.p0 ≤ 8 ∧ entryStart r.p0 + entryCount r.p0 ≤ 64 then none
    else some (.badParameter, []) := by
  by_cases h1 : r.count = 1
  · simp [checkReadEntries, require, h1, and_assoc]
  · simp [checkReadEntries, require, h1]

/-- Settles O44: a READ ENTRIES that passes its checks packs the entries of its range, any other is refused. -/
theorem readEntriesAnswersABank : Obligations.ReadEntriesAnswersABank := by
  unfold Obligations.ReadEntriesAnswersABank
  rintro s f e r start k v h hc rfl rfl rfl
  obtain ⟨-, -, hcounted⟩ := maps_idle hc f e
  have hcheck : checkCommand .readEntries r (metByCommand s f e) = _ := checkReadEntries_eq r
  by_cases hfits : r.count = 1 ∧ 1 ≤ entryCount r.p0 ∧ entryCount r.p0 ≤ 8 ∧ entryStart r.p0 + entryCount r.p0 ≤ 64
  · obtain ⟨k, hmap, hanswer⟩ := h.accepted_result (hcheck.trans (if_pos hfits))
    have hdone : doCommand .readEntries r k (countedState f e s) = doReadEntries r (countedState f e s) := rfl
    rw [hdone, doReadEntries, hcounted] at hanswer
    refine ⟨_, Carries.exec_eq (.inl h), hmap.trans hcounted, fun _ => ⟨_, hanswer, ?_⟩, fun hn => absurd hfits hn⟩
    obtain ⟨-, -, -, hend⟩ := hfits
    exact readWords_eq _ hend
  · obtain ⟨hanswer, hmap⟩ := h.refused_idle hc (hcheck.trans (if_neg hfits))
    exact ⟨_, Carries.exec_eq (.inl h), hmap, fun hp => absurd hp hfits, fun _ => hanswer⟩

end Sys2Proof.Machine
end

section
/-! PROOFS. COMMIT (O46): its checks in order, the conflict it reports, and the running copy that it meets. -/

namespace Sys2Proof.Machine

/-! ### The conflict reported (R68) -/

/-- The slots that are tried before slot `i` are the slots below it. -/
theorem finRange_split {n : Nat} (i : Fin n) :
    ∃ below above, List.finRange n = below ++ i :: above ∧ ∀ k ∈ below, k < i := by
  obtain ⟨below, above, h⟩ := List.append_of_mem (List.mem_finRange i)
  have hsorted := List.pairwise_lt_finRange n
  rw [h, List.pairwise_append] at hsorted
  obtain ⟨-, -, hlt⟩ := hsorted
  exact ⟨below, above, h, fun k hk => hlt k hk i (List.mem_cons_self ..)⟩

/-- The pair reported is the lowest slot in conflict with the lowest above it that conflicts with it (R68). -/
theorem conflictPair_eq_some {v : MapBank} {i j : SlotNumber} (hc : Conflict v i j)
    (hi : ∀ i' j', Conflict v i' j' → i ≤ i') (hj : ∀ j', Conflict v i j' → j ≤ j') :
    conflictPair v = some (i, j) := by
  have htest : ∀ i' j' : SlotNumber, (decide (i' < j') && v[i'].conflicts v[j']) = true ↔ Conflict v i' j' := by
    simp [Conflict, MapEntry.conflicts, and_assoc]
  obtain ⟨below, above, hsplit, hbelow⟩ := finRange_split i
  obtain ⟨below', above', hsplit', hbelow'⟩ := finRange_split j
  have hupper : (List.finRange 64).find? (fun j' => decide (i < j') && v[i].conflicts v[j']) = some j := by
    refine List.find?_eq_some_iff_append.2 ⟨(htest i j).2 hc, below', above', hsplit', fun k hk => ?_⟩
    rw [Bool.not_eq_true', ← Bool.not_eq_true, htest]
    exact fun h => absurd (hbelow' k hk) (not_lt.2 (hj k h))
  refine List.findSome?_eq_some_iff.2 ⟨below, i, above, hsplit, by rw [hupper]; rfl, fun k hk => ?_⟩
  rw [Option.map_eq_none_iff, List.find?_eq_none]
  intro l _
  rw [htest]
  exact fun h => absurd (hbelow k hk) (not_lt.2 (hi k l h))

/-! ### The checks (R68, R73) -/

/-- The checks of COMMIT in order (R68). -/
theorem checkCommit_eq (r : Request) (t : State) : checkCommit r t =
    if 2 ≤ r.count then some (.badParameter, [])
    else if t.cmd.address = 0 then some (.noAddress, [])
    else if t.map.copy ≠ none then some (.busy, [])
    else if t.map.commit ≠ none then some (.alreadyArmed, [])
    else (conflictPair t.map.shadow).map fun c => (.mapConflict, [numWord c.1.val, numWord c.2.val]) := by
  have hcount : (r.count == 0 || r.count == 1) = !decide (2 ≤ r.count) := by
    rw [Bool.eq_iff_iff]
    simp
    omega
  unfold checkCommit require
  rw [hcount]
  by_cases h2 : 2 ≤ r.count
  · simp [h2]
  by_cases ha : t.cmd.address = 0
  · simp [h2, ha]
  cases t.map.copy with
  | some src => simp [h2]
  | none =>
    cases t.map.commit with
    | some F => simp [h2]
    | none => cases conflictPair t.map.shadow <;> simp [h2]

/-! ### The running copy that it meets (R66) -/

section
variable {s : State} {f : FrameInFlight} {e : FrameClose} {r : Request}

/-- Where no copy runs, or its completion comes first, the command meets the map without it. -/
theorem metByCommand_copied (h : s.map.copy = none ∨ Precedes e .copyCompletion .command) :
    (metByCommand s f e).map = { s.map with copy := none } := by
  rcases h with h | h
  · obtain ⟨hidle, hmet, -⟩ := maps_idle h f e
    exact hmet.trans hidle.symm
  · exact (Closing.meet_copy _ ((precedes_command_iff e _).1 h)).trans (by rw [Closing.begin_map])

/-- Where the command comes first it meets the copy running. -/
theorem metByCommand_running (h : Precedes e .command .copyCompletion) :
    (metByCommand s f e).map = s.map := by
  obtain ⟨-, -, hb, -⟩ := endItems_split e
  exact (Closing.meet_map_stands _ hb (not_precedes_of_command h)).trans (by rw [Closing.begin_map])

theorem MapStore.shadow_endCopy (m : MapStore) : { m with copy := none }.shadow = m.shadow := by
  unfold MapStore.shadow
  cases m.active <;> rfl

/-! ### The row -/

theorem State.answer_link (s : State) (r : Request) (x : ResponseRecord) : (s.answer r x).link = s.link := by
  obtain ⟨y, h⟩ := s.answer_eq r x
  rw [h]

/-- A COMMIT that is accepted arms its F, and answers with it and the distance to it (R67, R69). -/
theorem commit_accepted (h : Carries s f e r .commit) (hc : checkCommit r (metByCommand s f e) = none)
    {F : FrameNumber} (hF : F = if r.count = 0 then (closeFrame f e s).s.link.E else r.p0.extractLsb' 0 18) :
    AnsweredIfUnicast (closeFrame f e s).s r .ok [F.zeroExtend 32, (F - (closeFrame f e s).s.link.E).zeroExtend 32]
      ∧ (closeFrame f e s).s.map = { s.map with copy := none, commit := some F } := by
  obtain ⟨k, hu⟩ := h.closeFrame_accepted (fun _ => by simp [BroadcastName]) hc
  have hlink : (closeFrame f e s).s.link = (countedState f e s).link := by
    rw [hu, State.answer_link]
    rfl
  have hframe : commitFrame r (countedState f e s) = F := by
    rw [hF, hlink]
    simp only [commitFrame, beq_iff_eq, wordFrame]
  rw [hlink, hu]
  refine ⟨fun hcls => (State.answer_response _ (.inl hcls) _).trans ?_, (State.answer_map ..).trans ?_⟩
  · rw [← hframe]
    rfl
  · show { (countedState f e s).map with commit := some (commitFrame r (countedState f e s)) } = _
    rw [countedState_map, hframe]

end

/-- Settles O46: the first check of R68 that fails on the map as the command meets it, and F armed where none does. -/
theorem commitArmsOrSaysWhyNot : Obligations.CommitArmsOrSaysWhyNot := by
  unfold Obligations.CommitArmsOrSaysWhyNot
  rintro s f e r m h rfl
  have refused : ∀ {st data}, checkCommit r (metByCommand s f e) = some (st, data) →
      AnsweredIfUnicast (closeFrame f e s).s r st data ∧ (closeFrame f e s).s.map = { s.map with copy := none } :=
    h.refused_result fun _ => by simp [BroadcastName]
  have hcheck := checkCommit_eq r (metByCommand s f e)
  rw [metByCommand_address] at hcheck
  refine ⟨_, h.exec_eq, fun hdone F h0 h1 => ?_, fun hrun hfirst => ?_⟩
  · rw [metByCommand_copied hdone, MapStore.shadow_endCopy] at hcheck
    have addressed : r.count ≤ 1 → s.cmd.address ≠ 0 → checkCommit r (metByCommand s f e) =
        if s.map.commit ≠ none then some (.alreadyArmed, [])
        else (conflictPair s.map.shadow).map fun c => (.mapConflict, [numWord c.1.val, numWord c.2.val]) :=
      fun h2 ha => by rw [hcheck, if_neg (by omega), if_neg ha, if_neg (by simp)]
    refine ⟨fun h2 => refused (by rw [hcheck, if_pos h2]),
      fun h2 ha => refused (by rw [hcheck, if_neg (by omega), if_pos ha]),
      fun h2 ha hm => refused (by rw [addressed h2 ha, if_pos hm]),
      fun h2 ha hm i j hc hi hj => refused ?_, fun h2 ha hm hfree => commit_accepted h ?_ ?_⟩
    · rw [addressed h2 ha, if_neg (not_not.2 hm), conflictPair_eq_some hc hi hj]
      rfl
    · rw [addressed h2 ha, if_neg (not_not.2 hm), conflictPair_eq_none.2 hfree]
      rfl
    · split
      · next hc => exact h0 hc
      · next hc => exact h1 (by omega)
  · rw [metByCommand_running hfirst] at hcheck
    have hturned : ∃ st, checkCommit r (metByCommand s f e) = some (st, [])
        ∧ (r.count ≤ 1 → s.cmd.address ≠ 0 → st = .busy) := by
      rw [hcheck, if_pos hrun]
      split
      · exact ⟨_, rfl, fun h2 _ => by omega⟩
      · split
        · next ha => exact ⟨_, rfl, fun _ hn => absurd ha hn⟩
        · exact ⟨_, rfl, fun _ _ => rfl⟩
    obtain ⟨st, hst, hbusy⟩ := hturned
    obtain ⟨hanswer, hmap⟩ := refused hst
    exact ⟨hmap, fun h2 ha => hbusy h2 ha ▸ hanswer⟩

end Sys2Proof.Machine
end

section
/-! PROOFS. The values that stay in range under every happening (O56): the ages, the parameters and countdowns, the
response record and the events of a frame (R85, R99, R102, R104, R112, R117, R121). -/

namespace Sys2Proof.Machine

/-! ### The countdowns of the notices (R126, R127) -/

/-- Every resend countdown is 1 to 4,095 (section 7.2). -/
structure NoticeQueue.Counting (q : NoticeQueue) : Prop where
  range : ∀ r ∈ q.records, ∀ n, r.state = .awaiting n → 1 ≤ n ∧ n ≤ 4095

theorem mem_modifyFirst {α : Type} {p : α → Bool} {f : α → α} {l : List α} {x : α} (h : x ∈ modifyFirst p f l) :
    x ∈ l ∨ ∃ y ∈ l, x = f y := by
  induction l with
  | nil => exact .inl h
  | cons y ys ih =>
    unfold modifyFirst at h
    split at h
    · rcases List.mem_cons.1 h with rfl | h
      · exact .inr ⟨y, List.mem_cons_self .., rfl⟩
      · exact .inl (List.mem_cons_of_mem _ h)
    · rcases List.mem_cons.1 h with rfl | h
      · exact .inl (List.mem_cons_self ..)
      · rcases ih h with h | ⟨z, hz, rfl⟩
        · exact .inl (List.mem_cons_of_mem _ h)
        · exact .inr ⟨z, List.mem_cons_of_mem _ hz, rfl⟩

/-- A raised record is QUEUED (R124). -/
theorem NoticeRecord.fold_queued (w : Bool) (q : SequenceNumber) (n : Notice) (r : NoticeRecord) :
    ∃ b, (r.fold w q n).state = .queued b := by
  unfold NoticeRecord.fold
  split <;> exact ⟨_, rfl⟩

section
variable {q : NoticeQueue}

theorem NoticeQueue.Counting.raise (h : q.Counting) (mask : BitVec 8) (item : RegionItem) (n : Notice) :
    (q.raise mask item n).Counting := by
  refine ⟨fun r hr k hk => ?_⟩
  unfold NoticeQueue.raise at hr
  split at hr
  · exact h.range r hr k hk
  · split at hr
    · rcases mem_modifyFirst hr with hr | ⟨r', -, rfl⟩
      · exact h.range r hr k hk
      · obtain ⟨b, hb⟩ := NoticeRecord.fold_queued (item == .notice n.kind) q.seqCounter n r'
        cases hb.symm.trans hk
    · split at hr
      · rcases List.mem_append.1 hr with hr | hr
        · exact h.range r hr k hk
        · rw [List.mem_singleton] at hr
          subst hr
          cases hk
      · exact h.range r hr k hk

/-- A delivered notice awaits for NOTICE_RESEND frames (R126). -/
theorem NoticeQueue.Counting.settle (h : q.Counting) (delivered : Bool) {resend : Nat} (hr : 1 ≤ resend ∧ resend ≤ 4095)
    (k : NoticeKind) : (q.settle delivered resend k).Counting := by
  refine ⟨fun r hmem n hn => ?_⟩
  rcases mem_modifyFirst hmem with hmem | ⟨r', hwas, rfl⟩
  · exact h.range r hmem n hn
  · unfold NoticeRecord.settle at hn
    split at hn
    · split at hn
      · split at hn
        · cases hn
        · cases hn; exact hr
      · cases hn
    · exact h.range r' hwas n hn

theorem NoticeQueue.Counting.countDown (h : q.Counting) :
    NoticeQueue.Counting { q with records := q.records.map NoticeRecord.countDown } := by
  refine ⟨fun r hmem n hn => ?_⟩
  obtain ⟨r', hwas, rfl⟩ := List.mem_map.1 hmem
  unfold NoticeRecord.countDown at hn
  split at hn
  · next m hm =>
    obtain ⟨-, hle⟩ := h.range r' hwas m hm
    dsimp only at hn
    split at hn
    · cases hn
    · cases hn; omega
  · exact h.range r' hwas n hn

/-- Removing records keeps the countdowns of the others. -/
theorem NoticeQueue.Counting.subset (h : q.Counting) {q' : NoticeQueue} (hs : q'.records ⊆ q.records) : q'.Counting :=
  ⟨fun r hr => h.range r (hs hr)⟩

end

/-! ### The answers (R99, R102) -/

/-- The data of an answer: four words at most, none for a refusal but the two of MAP_CONFLICT (R99, R102). -/
def DataFits (st : Status) (data : List Word) : Prop :=
  data.length ≤ 4 ∧ (st ≠ .ok → st ≠ .mapConflict → data = []) ∧ (st = .mapConflict → data.length = 2)

/-- The answer in a response record, if it holds one, fits. -/
structure ResponseRecord.Fits (x : ResponseRecord) : Prop where
  data : ∀ a, x = .unsent a ∨ x = .sent a → DataFits a.status a.data

theorem ResponseRecord.fits_empty : ResponseRecord.empty.Fits := ⟨by rintro a (h | h) <;> cases h⟩

theorem ResponseRecord.fits_pending (q : SequenceNumber) (t : Tag) : (ResponseRecord.pending q t).Fits :=
  ⟨by rintro a (h | h) <;> cases h⟩

theorem ResponseRecord.fits_unsent {a : Answer} (h : DataFits a.status a.data) : (ResponseRecord.unsent a).Fits := by
  constructor
  rintro b (hb | hb) <;> cases hb
  exact h

theorem ResponseRecord.Fits.sent {a : Answer} (h : (ResponseRecord.unsent a).Fits) : (ResponseRecord.sent a).Fits := by
  constructor
  rintro b (hb | hb) <;> cases hb
  exact h.data a (.inl rfl)

theorem ResponseRecord.Fits.reopen {x : ResponseRecord} (h : x.Fits) : x.reopen.Fits := by
  cases x with
  | sent a => exact fits_unsent (h.data a (.inr rfl))
  | empty | pending _ _ | unsent _ => exact h

/-- The answer of a completed copy is one word (R65). -/
theorem ResponseRecord.Fits.copyDone {x : ResponseRecord} (h : x.Fits) (src : Bank) : (x.copyDone src).Fits := by
  cases x with
  | pending q t => exact fits_unsent (by simp [DataFits])
  | empty | unsent _ | sent _ => exact h

/-- The refusal that a check draws, if any, fits. -/
def TurnFits (o : Option Turned) : Prop := ∀ t, o = some t → DataFits t.1 t.2

theorem turnFits_none : TurnFits none := by rintro t ⟨⟩

theorem turnFits_require {b : Bool} {st : Status} {rest : Option Turned} (hs : st ≠ .mapConflict) (h : TurnFits rest) :
    TurnFits (require b st rest) := by
  unfold require
  split
  · exact h
  · rintro t ⟨⟩
    exact ⟨by simp, fun _ _ => rfl, fun hm => absurd hm hs⟩

/-- No refusal carries data but MAP_CONFLICT, which carries two words (R68, R102). -/
theorem turnFits_checkCommand (n : CommandName) (r : Request) (s : State) : TurnFits (checkCommand n r s) := by
  cases n
  case commit =>
    refine turnFits_require (by decide) (turnFits_require (by decide) (turnFits_require (by decide)
      (turnFits_require (by decide) ?_)))
    split
    · rintro t ⟨⟩
      simp [DataFits]
    · exact turnFits_none
  case setParameter =>
    refine turnFits_require (by decide) ?_
    split
    · exact turnFits_require (by decide) turnFits_none
    · rintro t ⟨⟩
      simp [DataFits]
  case takeSnapshot =>
    show TurnFits (checkTakeSnapshot r s)
    unfold checkTakeSnapshot
    split
    · exact turnFits_none
    · exact turnFits_require (by decide) (turnFits_require (by decide) turnFits_none)
  case identify | nodeReset | readStatus => exact turnFits_require (by decide) turnFits_none
  case writeEntries =>
    exact turnFits_require (by decide) (turnFits_require (by decide) (turnFits_require (by decide)
      (turnFits_require (by decide) (turnFits_require (by decide) turnFits_none))))
  case readCounters =>
    exact turnFits_require (by decide) (turnFits_require (by decide) (turnFits_require (by decide)
      (turnFits_require (by decide) turnFits_none)))
  case copyActive | acknowledgeNotice | setCounter | readSnapshot =>
    exact turnFits_require (by decide) (turnFits_require (by decide) (turnFits_require (by decide) turnFits_none))
  all_goals exact turnFits_require (by decide) (turnFits_require (by decide) turnFits_none)

theorem dataFits_of_refuses {t : State} {r : Request} {st : Status} {data : List Word} (h : Refuses t r st data) :
    DataFits st data := by
  rcases h with ⟨-, rfl, rfl⟩ | ⟨n, -, hc⟩
  · simp [DataFits]
  · exact turnFits_checkCommand n r t _ hc

/-- Two values of the bank are four words at most (R147, R162). -/
theorem valueWords_length {l : List CounterValue} (h : l.length ≤ 2) : (l.map valueWords).flatten.length ≤ 4 := by
  match l, h with
  | [], _ | [_], _ | [_, _], _ => simp [valueWords]

/-- The answer of an accepted command has four data words at most (R99). -/
theorem doCommand_data {n : CommandName} {r : Request} {t : State} (hc : checkCommand n r t = none) (k : Capture)
    (s : State) : (doCommand n r k s).2.length ≤ 4 := by
  cases n
  case setParameter => unfold doCommand doSetParameter; dsimp only; split <;> simp
  case getParameter => unfold doCommand doGetParameter; dsimp only; split <;> simp
  case writeEntries => unfold doCommand doWriteEntries; dsimp only; split <;> simp
  case setCounter => unfold doCommand doSetCounter; dsimp only; split <;> simp
  case getCounterControl => unfold doCommand doGetCounterControl; dsimp only; split <;> simp [Counter.controlWords]
  case takeSnapshot =>
    unfold doCommand doTakeSnapshot
    dsimp only
    split
    · cases k <;> simp [captureWords]
    · simp
  case readEntries =>
    obtain ⟨-, hrange⟩ := require_eq_none.1 hc
    obtain ⟨hrange, -⟩ := require_eq_none.1 hrange
    simp only [Bool.and_eq_true, decide_eq_true_eq] at hrange
    simp only [doCommand, doReadEntries, packEntries_length, List.length_take]
    omega
  case readCounters =>
    simp only [checkCommand, checkReadCounters, require_eq_none, Bool.or_eq_true, beq_iff_eq] at hc
    obtain ⟨-, -, hp, -⟩ := hc
    have hle : r.p1.toNat ≤ 2 := by rcases hp with h | h <;> simp [h]
    have hflat := valueWords_length (l := ((s.counters.bank.toList.drop r.p0.toNat).take r.p1.toNat).map Counter.value)
      (by simp; omega)
    rwa [List.map_map] at hflat
  case readSnapshot =>
    unfold doCommand doReadSnapshot
    dsimp only
    split
    · unfold SnapshotRecord.part
      dsimp only
      split
      · simp [SnapshotRecord.headerWords]
      · exact valueWords_length (List.length_take_le ..)
    · simp
  all_goals
    simp [doCommand, doAssignAddress, identityWords, doNodeReset, State.statusWords, doCopyActive, doCommit,
      doCancelCommit, doClearCounters, doGate, doCancelSnapshot, doReleaseSnapshot]

theorem okAnswer_fits {n : CommandName} (r : Request) {data : List Word} (h : data.length ≤ 4) :
    (okAnswer n r data).Fits := by
  have hfits : DataFits .ok data := ⟨h, by simp, by simp⟩
  cases n
  case copyActive => exact ResponseRecord.fits_pending ..
  all_goals exact ResponseRecord.fits_unsent hfits

/-! ### The values that a node holds at every moment -/

/-- Every parameter stands in its range (R112). -/
structure Parameters.InRange (t : Parameters) : Prop where
  gap : t.courtesyGap ≤ 15
  limit : t.LimitFits
  resend : 16 ≤ t.noticeResend ∧ t.noticeResend ≤ 4095
  hold : ∀ c : Channel, t.holdLimit[c] ≤ 255

theorem Parameters.inRange_default : Parameters.default.InRange := by
  constructor <;> decide

/-- A parameter put to a value that it accepts stands in its range (R112, R113). -/
theorem Parameters.InRange.put {t : Parameters} (h : t.InRange) {p : ParamId} {w : Word} (ha : p.accepts w = true) :
    (t.put p w).InRange := by
  refine ⟨?_, limitFits_put h.limit ha, ?_, fun d => ?_⟩
  · cases p
    case courtesyGap => exact of_decide_eq_true ha
    all_goals exact h.gap
  · cases p
    case noticeResend => simpa [ParamId.accepts, Parameters.put] using ha
    all_goals exact h.resend
  · cases p
    case holdLimit c =>
      show (t.holdLimit.set c w.toNat)[d] ≤ 255
      rw [Fin.getElem_fin, Vector.getElem_set]
      split
      · exact of_decide_eq_true ha
      · exact h.hold d
    all_goals exact h.hold d

/-- The values of O56 that stand within a frame end too; the events of the frame are its others. -/
structure Held (s : State) : Prop where
  live : LiveWithinLimit s
  params : s.cmd.params.InRange
  gap : s.arb.gap ≤ 15
  counting : s.notices.Counting
  response : s.cmd.response.Fits

theorem held_iff {s : State} : Held s ↔ LiveWithinLimit s ∧ ParametersInRange s ∧ AnswerFits s := by
  constructor
  · rintro ⟨h1, ⟨h2, h3, h4, h5⟩, h6, ⟨h7⟩, ⟨h8⟩⟩
    exact ⟨h1, ⟨⟨h2, h6⟩, h3, h4, h5, h7⟩, ⟨h8⟩⟩
  · rintro ⟨h1, ⟨⟨h2, h6⟩, h3, h4, h5, h7⟩, ⟨h8⟩⟩
    exact ⟨h1, ⟨h2, h3, h4, h5⟩, h6, ⟨h7⟩, ⟨h8⟩⟩

section
variable {s : State}

theorem Held.raise (h : Held s) (n : Notice) : Held (s.raise n) :=
  ⟨h.live, h.params, h.gap, h.counting.raise .., h.response⟩

theorem Held.respond (h : Held s) {x : ResponseRecord} (hx : x.Fits) :
    Held { s with cmd := { s.cmd with response := x } } :=
  ⟨h.live, h.params, h.gap, h.counting, hx⟩

theorem Held.answer (h : Held s) (r : Request) {x : ResponseRecord} (hx : x.Fits) : Held (s.answer r x) := by
  unfold State.answer
  split
  · exact h.respond hx
  · exact h.respond hx
  · exact h
  · exact h

/-! ### A changed parameter (R86, R113, R130) -/

/-- A new hold limit leaves no channel LIVE at or past it (R86). -/
theorem limitLowered_live {c : Channel}
    (h : ∀ (d : Channel) (v : Sample) (age : Nat), d ≠ c → s.outputs[d] = .live v age →
      s.cmd.params.holdLimit[d] ≠ 0 → age < s.cmd.params.holdLimit[d]) : LiveWithinLimit (s.limitLowered c) := by
  unfold State.limitLowered
  split
  · intro d v age hd hl
    change (s.outputs.set c .safe)[d] = .live v age at hd
    rw [Fin.getElem_fin, Vector.getElem_set] at hd
    split at hd
    · cases hd
    · next hne => exact h d v age (fun hdc => hne (congrArg Fin.val hdc.symm)) hd hl
  · next hno =>
    intro d v age hd hl
    by_cases hdc : d = c
    · subst hdc
      rw [hd] at hno
      simp only [OutputChannel.expiresUnder, Bool.and_eq_true, bne_iff_ne, ne_eq, decide_eq_true_eq, not_and,
        not_le] at hno
      exact hno hl
    · exact h d v age hdc hd hl

theorem State.limitLowered_rest (s : State) (c : Channel) : (s.limitLowered c).cmd = s.cmd
    ∧ (s.limitLowered c).arb = s.arb ∧ (s.notices.Counting → (s.limitLowered c).notices.Counting) := by
  unfold State.limitLowered
  split
  · exact ⟨rfl, rfl, fun h => h.raise ..⟩
  · exact ⟨rfl, rfl, id⟩

/-- A SET PARAMETER of an accepted value keeps the values (R86, R112, R113, R130). -/
theorem Held.doSetParameter (h : Held s) {r : Request} {p : ParamId} (hp : paramOf r.p0 = some p)
    (ha : p.accepts r.p1 = true) : Held (doSetParameter r s).1 := by
  have hput : (s.cmd.params.put p r.p1).InRange := h.params.put ha
  unfold Machine.doSetParameter
  rw [hp]
  dsimp only
  split
  · exact h
  · clear * - h hput
    cases p
    case holdLimit c =>
      show Held ((s.putParam (.holdLimit c) r.p1).limitLowered c)
      obtain ⟨hcmd, harb, hcount⟩ := (s.putParam (.holdLimit c) r.p1).limitLowered_rest c
      refine ⟨limitLowered_live fun d v age hne hd hl => ?_, by rw [hcmd]; exact hput, by rw [harb]; exact h.gap,
        hcount h.counting, by rw [hcmd]; exact h.response⟩
      have hstands : (s.putParam (.holdLimit c) r.p1).cmd.params.holdLimit[d] = s.cmd.params.holdLimit[d] :=
        Vector.getElem_set_ne c.isLt d.isLt fun hcd => hne (Fin.ext hcd.symm)
      rw [hstands] at hl ⊢
      exact h.live d v age hd hl
    case noticeMask =>
      exact ⟨h.live, hput, h.gap, h.counting.subset (List.filter_subset_self _), h.response⟩
    all_goals exact ⟨h.live, hput, h.gap, h.counting, h.response⟩

/-! ### The works of a frame end -/

/-- At a frame end an output channel stays below its limit, or leaves LIVE (R84, R85). -/
theorem OutputChannel.frameEnd_within {o : OutputChannel} {taken : Option Sample} {l age : Nat} {v : Sample}
    (h : o.frameEnd taken l = .live v age) (hl : l ≠ 0) : age < l := by
  cases o with
  | unassigned => cases h
  | safe =>
    cases taken with
    | none => cases h
    | some x => cases h; omega
  | live x n =>
    cases taken with
    | some y => cases h; omega
    | none =>
      rw [OutputChannel.frameEnd_live] at h
      split at h
      · cases h
      · next hno => cases h; omega

theorem Held.begin (h : Held s) (f : FrameInFlight) (e : FrameClose) : Held (Closing.begin f e s).s := by
  obtain ⟨-, -, -, -, -, hcmd, hnotices, -, -, -, -, harb, -⟩ := Closing.begin_state f e s
  refine ⟨fun c v age hc hl => ?_, by rw [hcmd]; exact h.params, ?_, by rw [hnotices]; exact h.counting,
    by rw [hcmd]; exact h.response⟩
  · rw [begin_output] at hc
    rw [hcmd] at hl ⊢
    exact OutputChannel.frameEnd_within hc hl
  · have hgap := h.gap
    have hparam := h.params.gap
    rw [harb]
    dsimp only
    split <;> omega

theorem Held.settleItem (h : Held s) (delivered : Bool) : Held (s.settleItem delivered) := by
  have hresend := h.params.resend
  unfold State.settleItem
  split
  · exact h
  · exact ⟨h.live, h.params, h.gap, h.counting.settle delivered (by omega) _, h.response⟩
  · split
    · next a ha =>
      split
      · exact ⟨h.live, h.params, h.gap, h.counting, (ha ▸ h.response : (ResponseRecord.unsent a).Fits).sent⟩
      · exact ⟨h.live, h.params, h.gap, h.counting, h.response⟩
    all_goals exact ⟨h.live, h.params, h.gap, h.counting, h.response⟩

theorem Held.meetCommand (h : Held s) {n : CommandName} {r : Request} {t : State} (hc : checkCommand n r t = none)
    (b : Bool) : Held (meetCommand n r b s) := by
  cases n
  case acknowledgeNotice => exact ⟨h.live, h.params, h.gap, h.counting.subset List.eraseP_subset, h.response⟩
  case nodeReset =>
    unfold Machine.meetCommand
    dsimp only
    split
    · refine ⟨h.live, h.params, h.gap, h.counting, ?_⟩
      have hfits := h.response
      show ResponseRecord.Fits (match s.cmd.response with
        | .pending q t => .unsent { seq := q, tag := t, status := .aborted, data := [] }
        | .empty => .empty
        | .unsent a => .unsent a
        | .sent a => .sent a)
      split
      · exact ResponseRecord.fits_unsent (by simp [DataFits])
      all_goals simp_all
    · exact h
  case setParameter =>
    obtain ⟨p, hp, ha⟩ := checkSetParameter_eq_none hc
    show Held (meetParameter r b s)
    unfold meetParameter
    split
    · exact h.doSetParameter hp ha
    · exact h
  all_goals exact h

end

theorem Closing.Commanded.held {w v : Closing} (hc : w.Commanded v) (h : Held w.s) : Held v.s := by
  cases hc with
  | marks m _ => exact ⟨h.live, h.params, h.gap, h.counting, h.response⟩
  | resent => exact ⟨h.live, h.params, h.gap, h.counting, h.response.reopen⟩
  | accepted r n q ha =>
    have hq : Held { w.s with cmd := { w.s.cmd with broadcastSeq := q } } :=
      ⟨h.live, h.params, h.gap, h.counting, h.response⟩
    have hm := hq.meetCommand ha.passes w.snapshotFirst
    exact ⟨hm.live, hm.params, hm.gap, hm.counting, hm.response⟩

theorem Held.item {w : Closing} (h : Held w.s) (i : EndItem) : Held (w.item i).s := by
  cases i with
  | resend => exact ⟨h.live, h.params, h.gap, h.counting.countDown, h.response⟩
  | delivery => exact h.settleItem _
  | jumpRaise =>
    show Held w.jumpRaise.s
    unfold Closing.jumpRaise
    split
    · exact h.raise _
    · exact h
  | expiryRaise =>
    show Held w.expiryRaise.s
    unfold Closing.expiryRaise
    split
    · exact h
    · exact h.raise _
  | copyCompletion =>
    show Held w.copyCompletion.s
    unfold Closing.copyCompletion
    split
    · exact ⟨h.live, h.params, h.gap, h.counting, h.response.copyDone _⟩
    · exact h
  | command => exact w.command_commanded.held h

theorem Held.meet {w : Closing} (h : Held w.s) (items : List EndItem) : Held (w.meet items).s := by
  unfold Closing.meet
  induction items generalizing w with
  | nil => exact h
  | cons i rest ih => exact ih (h.item i)

/-! ### Counting, capture and the command -/

/-- What a frame end accepted is a SET PARAMETER of an accepted value, if it is a SET PARAMETER (R113). -/
theorem settled_setParameter {f : FrameInFlight} {e : FrameClose} {s : State} {r : Request}
    (h : (Closing.settled f e s).taking = .accepted r .setParameter) :
    ∃ p, paramOf r.p0 = some p ∧ p.accepts r.p1 = true := by
  obtain ⟨-, -, -, -, t, hpass⟩ := accepts_of_settled h
  exact checkSetParameter_eq_none hpass

theorem Held.beforeCapture {f : FrameInFlight} {e : FrameClose} {s : State} (h : Held (Closing.settled f e s).s) :
    Held (Closing.settled f e s).beforeCapture.s := by
  unfold Closing.beforeCapture
  split
  · exact h
  · show Held ((Closing.settled f e s).taking.beforeCapture (Closing.settled f e s).s)
    unfold Taking.beforeCapture
    split
    · next r ht =>
      obtain ⟨p, hp, ha⟩ := settled_setParameter ht
      unfold limitBeforeCapture
      split
      · exact h.doSetParameter hp ha
      · exact h
    · exact h

theorem Held.count {w : Closing} (h : Held w.s) : Held w.count.s := by
  show Held (State.captureStep { w.s with counters := w.s.counters.evaluate } w.frame.number (w.causes w.s.counters))
  rcases State.captureStep_cases { w.s with counters := w.s.counters.evaluate } w.frame.number
    (w.causes w.s.counters) with ⟨-, hs⟩ | ⟨-, -, hs⟩ | ⟨-, -, hs⟩ <;> rw [hs]
  · exact ⟨h.live, h.params, h.gap, h.counting, h.response⟩
  · exact ⟨h.live, h.params, h.gap, h.counting.raise .., h.response⟩
  · exact ⟨h.live, h.params, h.gap, h.counting.raise .., h.response⟩

theorem Held.doCommand {s : State} (h : Held s) {n : CommandName} {r : Request} {t : State}
    (hc : checkCommand n r t = none) (k : Capture) : Held (doCommand n r k s).1 := by
  by_cases hs : n = .setParameter
  · subst hs
    obtain ⟨p, hp, ha⟩ := checkSetParameter_eq_none hc
    exact h.doSetParameter hp ha
  · have hr := doCommand_reaches n r k s
    generalize (Machine.doCommand n r k s).1 = u at hr
    cases hr with
    | parameter _ _ _ => exact absurd rfl hs
    | reset =>
      refine ⟨fun c v age hc => ?_, Parameters.inRange_default, Nat.zero_le _, ?_, h.response⟩
      · change (Vector.replicate 8 OutputChannel.unassigned)[c] = _ at hc
        simp at hc
      · exact NoticeQueue.Counting.raise (q := { s.notices with records := [], dropped := 0 }) ⟨by simp⟩ _ s.arb.item _
    | reads _ _ | address _ | map _ _ _ | counters _ _ _ | snaps _ _ _ =>
      exact ⟨h.live, h.params, h.gap, h.counting, h.response⟩

/-- A refusal that a frame end answers is one that its command drew (R102). -/
theorem Closing.command_turned {w : Closing} {r : Request} {t : Turned} (hw : w.taking = .nothing)
    (h : w.command.taking = .turned r t) : DataFits t.1 t.2 := by
  have execute : ∀ (v : Closing) (r' : Request), (v.execute r').taking = .turned r t → DataFits t.1 t.2 := by
    intro v r' hv
    rcases v.execute_cases r' with ⟨n, -, -, he⟩ | ⟨t', ht, he⟩ <;> rw [he] at hv <;> cases hv
    exact dataFits_of_refuses ht
  have idle : w.taking ≠ .turned r t := by rw [hw]; rintro ⟨⟩
  have unicast : ∀ r' : Request, (w.takeUnicast r').taking = .turned r t → DataFits t.1 t.2 := by
    intro r' hr
    unfold Closing.takeUnicast at hr
    split at hr
    · exact absurd hr idle
    · exact absurd hr idle
    · exact absurd hr idle
    · exact execute _ _ hr
  unfold Closing.command at h
  split at h
  · split at h
    · exact unicast _ h
    · unfold Closing.takeClaimed at h
      split at h
      · exact absurd h idle
      · exact unicast _ h
    · unfold Closing.takeBroadcast at h
      split at h
      · exact absurd h idle
      · split at h
        · split at h
          · exact execute _ _ h
          · exact absurd h idle
        · exact absurd h idle
    · exact absurd h idle
  · exact absurd h idle

theorem settled_turned {f : FrameInFlight} {e : FrameClose} {s : State} {r : Request} {t : Turned}
    (h : (Closing.settled f e s).taking = .turned r t) : DataFits t.1 t.2 := by
  rw [settled_taking] at h
  exact Closing.command_turned (congrArg CommandMarks.taking (Closing.beforeCommand_marks f e s)) h

/-- A frame end keeps the values (R84 to R86, R99, R102, R112, R119, R126, R127). -/
theorem Held.closeFrame {s : State} (h : Held s) (f : FrameInFlight) (e : FrameClose) : Held (closeFrame f e s).s := by
  have hworked : Held (Closing.worked f e s).s := (h.begin f e).meet _
  have hsettled : Held (Closing.settled f e s).s :=
    ⟨hworked.live, hworked.params, hworked.gap, hworked.counting.subset (List.Subset.refl _), hworked.response⟩
  have hcounted : Held (countedState f e s) := hsettled.beforeCapture.count
  rw [closeFrame_eq_run]
  cases ht : (Closing.settled f e s).taking with
  | nothing => exact hcounted
  | turned r t => exact hcounted.answer r (ResponseRecord.fits_unsent (settled_turned ht))
  | accepted r n =>
    obtain ⟨-, -, -, -, t, hpass⟩ := accepts_of_settled ht
    exact (hcounted.doCommand hpass _).answer r (okAnswer_fits r (doCommand_data hpass _ _))

/-- The execution of a command moves of the Response Arbiter the courtesy gap at most (R115). -/
theorem Taking.arb_run (t : Taking) (k : Capture) (s : State) : ∃ g, (t.run k s).arb = { s.arb with gap := g } := by
  obtain ⟨u, x, h, hu⟩ := t.run_eq k s
  rw [h]
  rcases hu with rfl | ⟨r, n, -, hr⟩
  · exact ⟨u.arb.gap, rfl⟩
  · cases hr with
    | reset => exact ⟨_, rfl⟩
    | reads _ _ | address _ | parameter _ _ _ | map _ _ _ | counters _ _ _ | snaps _ _ _ => exact ⟨s.arb.gap, rfl⟩

/-- No event is counted, and no item written, when a frame end is over (R104, R121). -/
theorem closeFrame_fresh (f : FrameInFlight) (e : FrameClose) (s : State) : EventsFresh (closeFrame f e s).s := by
  obtain ⟨l, hcmd, harb, -⟩ := countedState_eq f e s
  obtain ⟨a, p, x, hc⟩ := Taking.cmd_run (Closing.settled f e s).taking (Closing.settled f e s).capture
    (countedState f e s)
  obtain ⟨g, ha⟩ := Taking.arb_run (Closing.settled f e s).taking (Closing.settled f e s).capture
    (countedState f e s)
  rw [harb] at ha
  rw [hcmd] at hc
  refine ⟨?_, ?_, ?_⟩ <;> rw [closeFrame_eq_run]
  · rw [hc]
  · rw [ha]
  · rw [ha]; rintro ⟨⟩

/-! ### The happenings' own operations -/

/-- The values of O56. -/
structure Valued (s : State) : Prop extends Held s, EventsFresh s

theorem valued_iff {s : State} : Valued s ↔
    LiveWithinLimit s ∧ ParametersInRange s ∧ AnswerFits s ∧ EventsFresh s := by
  constructor
  · intro h
    obtain ⟨h1, h2, h3⟩ := held_iff.1 h.toHeld
    exact ⟨h1, h2, h3, h.toEventsFresh⟩
  · rintro ⟨h1, h2, h3, h4⟩
    exact ⟨held_iff.2 ⟨h1, h2, h3⟩, h4⟩

theorem Valued.closeFrame {s : State} (h : Valued s) (f : FrameInFlight) (e : FrameClose) :
    Valued (closeFrame f e s).s :=
  ⟨h.toHeld.closeFrame f e, closeFrame_fresh f e s⟩

section
variable {s t : State}

/-- A happening that reaches neither the Command Unit nor the Response Arbiter, and brings no channel LIVE. -/
theorem Valued.next (h : Valued s) (hcmd : t.cmd = s.cmd) (harb : t.arb = s.arb)
    (hout : ∀ (c : Channel) (v : Sample) (age : Nat), t.outputs[c] = .live v age → s.outputs[c] = .live v age)
    (hn : t.notices.Counting) : Valued t := by
  obtain ⟨⟨h1, h2, h3, -, h5⟩, h6, h7, h8⟩ := h
  refine ⟨⟨fun c v age hc => ?_, hcmd ▸ h2, harb ▸ h3, hn, hcmd ▸ h5⟩, hcmd ▸ h6, harb ▸ h7, ?_⟩
  · rw [hcmd]; exact h1 c v age (hout c v age hc)
  · rw [hcmd, harb]; exact h8

/-- A happening of the link: it reaches neither the outputs nor those two blocks. -/
theorem Valued.linkMoved (h : Valued s) (hcmd : t.cmd = s.cmd) (harb : t.arb = s.arb) (hout : t.outputs = s.outputs)
    (hn : t.notices.Counting) : Valued t :=
  h.next hcmd harb (fun _ _ _ hc => hout ▸ hc) hn

theorem Valued.of_happens {u : State} (hs : Valued s) (h : happens s t = .next u) (ht : Valued t) : Valued u := by
  rcases happens_cases h with rfl | rfl
  · exact hs
  · exact ht

theorem Valued.beginFrame (h : Valued s) (b : Bool) (p : BitTime) : Valued (s.beginFrame b p) :=
  h.linkMoved rfl rfl rfl h.counting

theorem Valued.failVerify (h : Valued s) : Valued s.failVerify := by
  unfold State.failVerify
  dsimp only
  split
  · exact h.linkMoved rfl rfl rfl h.counting
  · exact h.linkMoved rfl rfl rfl (h.counting.raise ..)

theorem Valued.lockAt (h : Valued s) (p : BitTime) : Valued (s.lockAt p) := by
  unfold State.lockAt
  dsimp only
  split
  · exact h.linkMoved rfl rfl rfl (h.counting.raise ..)
  · exact h.linkMoved rfl rfl rfl h.counting

theorem Valued.relock (h : Valued s) (p : BitTime) : Valued (s.relock p) := by
  unfold State.relock
  split <;> exact h.linkMoved rfl rfl rfl h.counting

theorem Valued.missSync (h : Valued s) (p : BitTime) (n : Nat) : Valued (s.missSync p n) := by
  unfold State.missSync
  dsimp only
  split
  · exact h.linkMoved rfl rfl rfl h.counting
  · exact h.linkMoved rfl rfl rfl (h.counting.raise ..)

/-- A commit that fires brings no channel LIVE (R83). -/
theorem OutputChannel.reassign_live {old new : Bool} {o : OutputChannel} {v : Sample} {age : Nat}
    (h : o.reassign old new = .live v age) : o = .live v age := by
  cases old with
  | false => cases new <;> cases h
  | true =>
    cases new with
    | false => cases h
    | true => exact h

theorem Valued.headerTime (h : Valued s) (f : FrameInFlight) (w : Word) : Valued (s.headerTime f w) := by
  have hfire : Valued (State.fireIfDue { s with map := s.map.atHeader }) := by
    unfold State.fireIfDue
    split
    · refine h.next rfl rfl (fun _ _ _ hc => ?_) (h.counting.raise ..)
      simp only [State.fireCommit_outputs, Fin.getElem_fin, Vector.getElem_ofFn] at hc
      exact OutputChannel.reassign_live hc
    · exact h.linkMoved rfl rfl rfl h.counting
  exact hfire.linkMoved rfl rfl rfl hfire.counting

theorem Valued.commandRegion (h : Valued s) (f : FrameInFlight) (w p0 p1 p2 p3 : Word) :
    Valued (s.commandRegion f w p0 p1 p2 p3) := by
  obtain ⟨⟨h1, h2, h3, h4, h5⟩, h6, h7, h8⟩ := h
  unfold State.commandRegion
  dsimp only
  split <;> exact ⟨⟨h1, h2, h3, h4, h5⟩, h6, h7, h8⟩

/-- The response is offered while it is UNSENT alone (R117). -/
theorem State.offer_response (h : s.offer = .response) : ∃ a, s.cmd.response = .unsent a := by
  unfold State.offer at h
  split at h
  · exact ⟨_, ‹_›⟩
  all_goals split at h <;> cases h

theorem Valued.responseRegion (h : Valued s) (f : FrameInFlight) (w d0 d1 d2 d3 : Word) :
    Valued (s.responseRegion f w d0 d1 d2 d3) := by
  obtain ⟨⟨h1, h2, h3, h4, h5⟩, h6, h7, -⟩ := h
  unfold State.responseRegion
  dsimp only
  split
  · split
    · exact ⟨⟨h1, h2, h3, h4, h5⟩, h6, h7, State.offer_response⟩
    · exact ⟨⟨h1, h2, h3, h4, h5⟩, h6, h7, by rintro ⟨⟩⟩
  · exact ⟨⟨h1, h2, h3, h4, h5⟩, h6, h7, by rintro ⟨⟩⟩

/-- The reset values (R82, R91, R115), with a queue whose countdowns are in range. -/
theorem valued_of_reset (hout : t.outputs = Vector.replicate 8 .unassigned) (hcmd : t.cmd = CommandUnit.reset)
    (harb : t.arb = Arbiter.reset) (hn : t.notices.Counting) : Valued t := by
  refine ⟨⟨fun c v age hc => ?_, by rw [hcmd]; exact Parameters.inRange_default, by rw [harb]; exact Nat.zero_le _, hn,
    by rw [hcmd]; exact ResponseRecord.fits_empty⟩, by rw [hcmd]; rfl, by rw [harb]; rfl, by rw [harb]; rintro ⟨⟩⟩
  rw [hout] at hc
  simp at hc

theorem NoticeQueue.counting_reset : NoticeQueue.reset.Counting := ⟨by rintro r ⟨⟩⟩

theorem valued_cold (line : LineOut) (held : Bool) (rest : List Instr) :
    Valued { State.cold line held with pending := rest } :=
  valued_of_reset rfl rfl rfl NoticeQueue.counting_reset

theorem valued_started (p : BitTime) (rest : List Instr) : Valued { State.started p with pending := rest } :=
  valued_of_reset rfl rfl rfl (NoticeQueue.counting_reset.raise _ .none _)

end

/-! ### Every happening -/

theorem exec_valued {i : Instr} {s t : State} (hs : Valued s) (h : exec i s = .next t) : Valued t := by
  cases i
  case powerOn p =>
    unfold exec execPowerOn at h
    cases h
    split
    · exact valued_cold ..
    · exact valued_started ..
  case resetPinLow p => exact hs.of_happens h (valued_cold ..)
  case resetPinRelease p =>
    unfold exec execResetPinRelease at h
    cases h
    split
    · exact valued_started ..
    · exact hs
  case startupIdleFillEnds =>
    refine hs.of_happens h ?_
    split
    · exact hs.beginFrame ..
    · exact hs
  case regeneratedFrameStart =>
    refine hs.of_happens h ?_
    split
    · split
      · exact hs.beginFrame ..
      · exact hs
    · exact hs
  case syncFoundInHunt p =>
    refine hs.of_happens h ?_
    split
    · exact hs.linkMoved rfl rfl rfl hs.counting
    · exact hs
  case candidateCheckWord content check =>
    refine hs.of_happens h ?_
    split
    · split
      · exact hs.linkMoved rfl rfl rfl hs.counting
      · exact hs.failVerify
    · exact hs
  case secondSyncJudged window =>
    refine hs.of_happens h ?_
    split
    · split
      · split
        · exact (hs.lockAt _).relock _
        · exact hs.failVerify
      · exact hs
    · exact hs
  case syncFoundInLocked =>
    refine hs.of_happens h ?_
    split
    · next p _ _ =>
      split
      · have hf : Valued { s with link := s.link.foundAt p } := hs.linkMoved rfl rfl rfl hs.counting
        dsimp only
        split
        · exact hf.relock _
        · exact hf.beginFrame ..
      · exact hs
    · exact hs
  case syncMissInLocked =>
    refine hs.of_happens h ?_
    split
    · split
      · exact hs.missSync ..
      · exact hs
    · exact hs
  case syncFoundInFlywheel =>
    refine hs.of_happens h ?_
    split
    · split
      · exact hs.linkMoved rfl rfl rfl hs.counting
      · exact hs
    · exact hs
  case syncMissInFlywheel =>
    refine hs.of_happens h ?_
    split
    · split
      · exact hs.missSync ..
      · exact hs
    · exact hs
  case syncFoundElsewhereInFlywheel p =>
    refine hs.of_happens h ?_
    split
    · exact hs.linkMoved rfl rfl rfl hs.counting
    · exact hs
  case headerTime w =>
    refine hs.of_happens h ?_
    split
    · exact hs.headerTime ..
    · exact hs
  case commitFire w =>
    refine hs.of_happens h ?_
    split
    · exact hs.headerTime ..
    · exact hs
  case slotInFlight w =>
    refine hs.of_happens h ?_
    split
    · split
      · exact hs.linkMoved rfl rfl rfl hs.counting
      · exact hs
    · exact hs
  case commandRegionHeader w names p0 p1 p2 p3 =>
    refine hs.of_happens h ?_
    split
    · split
      · exact hs
      · exact hs.commandRegion ..
    · exact hs
  case responseRegionHeader w d0 d1 d2 d3 =>
    refine hs.of_happens h ?_
    split
    · exact hs.responseRegion ..
    · exact hs
  case sampleArrival c v => exact hs.of_happens h (hs.linkMoved rfl rfl rfl hs.counting)
  all_goals
    rcases exec_close_cases rfl h with rfl | ⟨f, -, -, -, rfl⟩
    · exact hs
    · exact hs.closeFrame f _

/-- Settles O56: the values stand through every work of a frame end, and every other row moves few of them. -/
theorem valuesStayInRange : Obligations.ValuesStayInRange := by
  unfold Obligations.ValuesStayInRange
  intro s t hs h
  rw [← valued_iff] at hs ⊢
  unfold step at h
  split at h
  · cases h; exact hs
  · next i rest _ =>
    exact exec_valued (hs.linkMoved (t := { s with pending := rest }) rfl rfl rfl hs.counting) h

end Sys2Proof.Machine
end

section
/-! PROOFS. The arrival of a sample (O17), and the frame end at which an output channel expires (O21). -/

namespace Sys2Proof.Machine

/-! ### The arrival of a sample (R77) -/

theorem InputState.isFresh_iff {x : InputState} : x.isFresh = true ↔ ∃ v mark, x = .fresh v mark := by
  cases x <;> simp [InputState.isFresh]

theorem InputChannel.arrive_overwritten (c : InputChannel) (v : Sample) :
    ((∃ v' mark, c.state = .fresh v' mark) → (c.arrive v).overwritten = min 255 (c.overwritten + 1))
      ∧ ((∀ v' mark, c.state ≠ .fresh v' mark) → (c.arrive v).overwritten = c.overwritten) := by
  refine ⟨fun h => if_pos (InputState.isFresh_iff.2 h), fun h => if_neg fun hf => ?_⟩
  obtain ⟨v', mark, hs⟩ := InputState.isFresh_iff.1 hf
  exact h v' mark hs

/-- Settles O17: the arrival replaces the one channel's sample, by what that channel was. -/
theorem arrivalReplacesTheSample : Obligations.ArrivalReplacesTheSample := by
  unfold Obligations.ArrivalReplacesTheSample
  intro s c v h
  have hsame : (s.inputs.set c (s.inputs[c].arrive v))[c] = s.inputs[c].arrive v := Vector.getElem_set_self c.isLt
  obtain ⟨hfresh, hother⟩ := s.inputs[c].arrive_overwritten v
  refine ⟨_, happens_up h _, ?_⟩
  dsimp only
  rw [hsame]
  refine ⟨rfl, rfl, hfresh, hother, fun d hd => ?_, rfl⟩
  exact Vector.getElem_set_ne c.isLt d.isLt fun hcd => hd (Fin.ext hcd.symm)

/-! ### The channels that expire (R85) -/

section
variable {f : FrameInFlight} {e : FrameClose} {s : State} {c : Channel}

theorem begin_expired (f : FrameInFlight) (e : FrameClose) (s : State) :
    (Closing.begin f e s).expired = expiringChannels s (handedTaps f e s) := by
  unfold Closing.begin Closing.schedule
  split <;> rfl

theorem closeFrame_expired (f : FrameInFlight) (e : FrameClose) (s : State) :
    (closeFrame f e s).expired = expiringChannels s (handedTaps f e s) := by
  obtain ⟨-, -, hx, -⟩ := (Closing.worked_same f e s).closing
  obtain ⟨l, o, n, hb⟩ := (Closing.settled f e s).beforeCapture_eq
  show (Closing.settled f e s).beforeCapture.expired = _
  rw [hb]
  exact hx.trans (begin_expired f e s)

theorem mem_expiringChannels {taps : List TapRecord} : c ∈ expiringChannels s taps ↔
    s.outputs[c].expires (tapFor taps c) s.cmd.params.holdLimit[c] = true := by
  simp [expiringChannels]

/-- A LIVE channel alone expires, without a new value, under a limit that its age reaches (R85). -/
theorem OutputChannel.expires_iff {o : OutputChannel} {taken : Option Sample} {l : Nat} : o.expires taken l = true ↔
    taken = none ∧ ∃ v age, o = .live v age ∧ l ≠ 0 ∧ l ≤ min 255 (age + 1) := by
  cases taken <;> cases o <;> simp [OutputChannel.expires]

/-- No record is handed over for a channel that none names, or at an end that is not GOOD (R50). -/
theorem tapFor_handedTaps_eq_none (h : (∀ t ∈ s.slots.staged, t.channel ≠ c) ∨ ¬EndsGood f e.check) :
    tapFor (handedTaps f e s) c = none := by
  refine tapFor_eq_none fun t ht => ?_
  unfold handedTaps at ht
  split at ht
  · next hg => exact h.resolve_right (fun hb => hb (outcome_good_iff.1 (beq_iff_eq.1 hg))) t ht
  · cases ht

/-- The row of an expiry is the frame end where the channel expires, and nothing elsewhere (assumptions 2, 3). -/
theorem exec_outputExpiry_eq (h : AtEnd s f) : exec (.outputExpiry c e) s =
    .next (if c ∈ expiringChannels s (handedTaps f e s) then (closeFrame f e s).s else s) := by
  show happens s (atFrameEnd (fun w => w.expired.contains c) e s) = _
  rw [happens_up h.up, atFrameEnd_eq h.flight h.last]
  simp only [closeFrame_expired, List.contains_iff_mem]

/-! ### OUTPUT_EXPIRED (R85) -/

theorem safeMask_getLsbD {o : Vector OutputChannel 8} {d : Channel} :
    (safeMask o).getLsbD d.val = true ↔ o[d] = .safe := by
  rw [safeMask, maskOf_getLsbD]
  exact o[d].isSafe_iff

/-- A calm frame end without a command whose frame's number agrees, in the standard order: the works that meet are the
resend step and the raising of OUTPUT_EXPIRED. -/
theorem worked_expiry (hc : Calm s) (hn : NoCommand s) (hj : headerNumber f.header = f.number) (he : e.order = []) :
    Closing.worked f e s = (Closing.begin f e s).resend.expiryRaise := by
  have hsame := ((Closing.begin f e s).resend_same).trans (Closing.expiryRaise_same _)
  have hd : (Closing.begin f e s).resend.delivery = (Closing.begin f e s).resend :=
    Closing.delivery_quiet ((Closing.begin_item f e s).trans hc.item)
  have hjump : (Closing.begin f e s).resend.jumpRaise = (Closing.begin f e s).resend := by
    refine Closing.jumpRaise_quiet ?_
    show (Closing.begin f e s).frame.jumps _ = false
    rw [Closing.begin_frame]
    simp [FrameInFlight.jumps, hj]
  have hcopy : (Closing.begin f e s).resend.expiryRaise.s.map = s.map :=
    (Closing.item_bystander _ (i := .expiryRaise) (by decide) (by decide) (by decide)).2.2.trans
      (Closing.begin_map f e s)
  have hheld : NoCommand (Closing.begin f e s).resend.expiryRaise.s := by
    unfold NoCommand
    rw [hsame.held, Closing.begin_cmd]
    exact hn
  rw [Closing.worked, endItems_standard he]
  show (Closing.command (Closing.copyCompletion (Closing.expiryRaise (Closing.jumpRaise
    (Closing.delivery (Closing.resend _)))))) = _
  rw [hd, hjump, Closing.copyCompletion_quiet (by rw [hcopy]; exact hc.copy), Closing.command_quiet hheld]

/-- OUTPUT_EXPIRED is raised there, after the resend step, with the SAFE mask after the expiries (R85, R127). -/
theorem closeFrame_expiry_notices (hc : Calm s) (hn : NoCommand s) (hj : headerNumber f.header = f.number)
    (he : e.order = []) (hx : c ∈ expiringChannels s (handedTaps f e s)) :
    (closeFrame f e s).s.notices = { NoticeQueue.raise { s.notices with records := Resent s.notices.records }
      s.cmd.params.noticeMask .none (.outputExpired (safeMask (closeFrame f e s).s.outputs)) with pendingDrops := 0 } := by
  have hraise : (Closing.begin f e s).resend.expiryRaise = { (Closing.begin f e s).resend with
      s := (Closing.begin f e s).resend.s.raise (.outputExpired (safeMask (Closing.begin f e s).resend.s.outputs)) } := by
    have hne : (Closing.begin f e s).resend.expired.isEmpty = false := by
      show (Closing.begin f e s).expired.isEmpty = false
      rw [begin_expired]
      simpa using List.ne_nil_of_mem hx
    rw [Closing.expiryRaise, hne]
    rfl
  have hworked := worked_expiry hc hn hj he
  rw [hraise] at hworked
  have htaking : (Closing.begin f e s).taking.Idle := by
    rw [Closing.begin_taking]
    exact Taking.idle_nothing
  obtain ⟨-, -, hout⟩ := hn.closeFrame_channels (f := f) (e := e)
  rw [closeFrame_calm_notices hc hworked htaking, hout]
  show { NoticeQueue.raise { (Closing.begin f e s).s.notices with
      records := Resent (Closing.begin f e s).s.notices.records } (Closing.begin f e s).s.cmd.params.noticeMask
      (Closing.begin f e s).s.arb.item _ with pendingDrops := 0 } = _
  rw [Closing.begin_notices, Closing.begin_cmd, Closing.begin_item, hc.item]
  rfl

end

/-- Settles O21: the row is the frame end whose own work expires the channel, and it raises the notice. -/
theorem outputExpiresToItsSafeValue : Obligations.OutputExpiresToItsSafeValue := by
  unfold Obligations.OutputExpiresToItsSafeValue
  intro s f e c hend hno
  have hexec := exec_outputExpiry_eq (e := e) (c := c) hend
  obtain ⟨hparams, -, hout⟩ := hno.closeFrame_channels (f := f) (e := e)
  refine ⟨fun v age ho h0 hl htaps => ?_, fun hlive => ?_⟩
  · have hnone := tapFor_handedTaps_eq_none htaps
    have hx : c ∈ expiringChannels s (handedTaps f e s) :=
      mem_expiringChannels.2 (OutputChannel.expires_iff.2 ⟨hnone, v, age, ho, h0, hl⟩)
    have hsafe : (closeFrame f e s).s.outputs[c] = .safe := by
      rw [hout, begin_output, hnone, ho, OutputChannel.frameEnd_live, if_pos ⟨h0, hl⟩]
    refine ⟨_, by rw [hexec, if_pos hx], exec_frameEnd_eq e hend, hsafe, ?_, fun hc he hj =>
      ⟨_, fun d => safeMask_getLsbD, closeFrame_expiry_notices hc hno hj he hx⟩⟩
    rw [State.sout, hsafe, hparams]
  · rw [hexec, if_neg fun hx => ?_]
    obtain ⟨-, v, age, ho, -⟩ := OutputChannel.expires_iff.1 (mem_expiringChannels.1 hx)
    exact hlive v age ho

end Sys2Proof.Machine
end

section
/-! PROOFS. READ STATUS (O40): the four words that it answers, field by field, on the node as the frame end leaves it. -/

namespace Sys2Proof.Machine

/-! ### The four words (R90, R111) -/

/-- Channel `c` stands in bits 2c + 1 and 2c of the sixteen (R90). -/
theorem stateCodes_field (code : Channel → BitVec 2) (c : Channel) :
    (stateCodes code).extractLsb' (2 * c.val) 2 = code c := by
  have lowest : ∀ {m : Nat} (a : BitVec m) (b : BitVec 2), (a ++ b).extractLsb' 0 2 = b := fun a b =>
    (extract_lower a b 0 2 (by decide)).trans (extract_whole b)
  unfold stateCodes
  match c with
  | 0 => exact lowest _ _
  | 1 =>
    rw [extract_upper _ _ _ _ (by decide)]
    exact lowest _ _
  | 2 =>
    iterate 2 rw [extract_upper _ _ _ _ (by decide)]
    exact lowest _ _
  | 3 =>
    iterate 3 rw [extract_upper _ _ _ _ (by decide)]
    exact lowest _ _
  | 4 =>
    iterate 4 rw [extract_upper _ _ _ _ (by decide)]
    exact lowest _ _
  | 5 =>
    iterate 5 rw [extract_upper _ _ _ _ (by decide)]
    exact lowest _ _
  | 6 =>
    iterate 6 rw [extract_upper _ _ _ _ (by decide)]
    exact lowest _ _
  | 7 =>
    iterate 7 rw [extract_upper _ _ _ _ (by decide)]
    exact extract_whole _

theorem frameWord_upper (n : FrameNumber) : (frameWord n).extractLsb' 18 14 = 0 := by
  ext j hj
  simp [frameWord]

/-- The words that READ STATUS answers hold each field of R111 as the node stands. -/
theorem statusWords_fields (s : State) : ∃ w0 w1 w2 w3 : Word, s.statusWords = [w0, w1, w2, w3]
    ∧ w0.extractLsb' 30 2 = s.link.state.code ∧ w0.getLsbD 29 = s.link.lostFlag
    ∧ w0.getLsbD 28 = s.map.commit.isSome ∧ w0.getLsbD 27 = (s.map.active == .b)
    ∧ w0.getLsbD 26 = s.map.copy.isSome ∧ w0.getLsbD 25 = s.counters.gate
    ∧ w0.extractLsb' 18 7 = 0 ∧ w0.extractLsb' 0 18 = s.link.E
    ∧ w1.extractLsb' 29 3 = BitVec.ofNat 3 s.notices.records.length
    ∧ w1.extractLsb' 26 3 = BitVec.ofNat 3 s.snaps.queue.length
    ∧ w1.extractLsb' 24 2 = 0 ∧ w1.extractLsb' 0 24 = BitVec.ofNat 24 s.link.unlocked
    ∧ w2.extractLsb' 18 14 = 0 ∧ w2.extractLsb' 0 18 = s.map.commit.getD 0
    ∧ ∀ c : Channel, w3.extractLsb' (2 * c.val + 16) 2 = s.outputs[c].code
        ∧ w3.extractLsb' (2 * c.val) 2 = s.inputs[c].state.code := by
  refine ⟨_, _, _, _, rfl, ?_, ?_, ?_, ?_, ?_, ?_, ?_, ?_, ?_, ?_, ?_, ?_, frameWord_upper _, wordFrame_frameWord _,
    fun c => ⟨?_, ?_⟩⟩
  · iterate 7 rw [extract_upper _ _ _ _ (by decide)]
    exact extract_whole _
  · iterate 6 rw [bit_upper _ _ _ (by decide)]
    exact bit_last _ _
  · iterate 5 rw [bit_upper _ _ _ (by decide)]
    exact bit_last _ _
  · iterate 4 rw [bit_upper _ _ _ (by decide)]
    exact (bit_last _ _).trans (by cases s.map.active <;> rfl)
  · iterate 3 rw [bit_upper _ _ _ (by decide)]
    exact bit_last _ _
  · iterate 2 rw [bit_upper _ _ _ (by decide)]
    exact bit_last _ _
  · rw [extract_upper _ _ _ _ (by decide)]
    exact (extract_lower _ _ _ _ (by decide)).trans (extract_whole _)
  · exact (extract_lower _ _ _ _ (by decide)).trans (extract_whole _)
  · iterate 3 rw [extract_upper _ _ _ _ (by decide)]
    exact extract_whole _
  · iterate 2 rw [extract_upper _ _ _ _ (by decide)]
    exact (extract_lower _ _ _ _ (by decide)).trans (extract_whole _)
  · rw [extract_upper _ _ _ _ (by decide)]
    exact (extract_lower _ _ _ _ (by decide)).trans (extract_whole _)
  · exact (extract_lower _ _ _ _ (by decide)).trans (extract_whole _)
  · rw [extract_upper _ _ _ _ (by omega), Nat.add_sub_cancel]
    exact stateCodes_field (fun c => s.outputs[c].code) c
  · have hc := c.isLt
    rw [extract_lower _ _ _ _ (by omega)]
    exact stateCodes_field (fun c => s.inputs[c].state.code) c

/-! ### The row -/

section
variable {s : State} {f : FrameInFlight} {e : FrameClose} {r : Request} {n : CommandName}

/-- A unicast that is refused draws its refusal (R57, R102). -/
theorem Executes.refused_answer (h : Executes s f e r n) {st : Status} {data : List Word}
    (hc : checkCommand n r (metByCommand s f e) = some (st, data)) : Answered (closeFrame f e s).s r st data :=
  (Carries.refused_result (.inl h) h.not_broadcast hc).1 h.unicast

/-- READ STATUS reports the node as it stands when the frame end is over: of it, the answer alone comes later. -/
theorem readStatus_answered (h : Executes s f e r .readStatus) (h0 : r.count = 0) :
    Answered (closeFrame f e s).s r .ok (closeFrame f e s).s.statusWords := by
  obtain ⟨k, hu⟩ := Carries.closeFrame_accepted (.inl h) h.not_broadcast
    (by simp [checkCommand, checkReadStatus, require, h0])
  have hwords : (closeFrame f e s).s.statusWords = (countedState f e s).statusWords := by
    obtain ⟨x, hx⟩ := (doCommand .readStatus r k (countedState f e s)).1.answer_eq r
      (okAnswer .readStatus r (doCommand .readStatus r k (countedState f e s)).2)
    rw [hu, hx]
    rfl
  rw [hwords, hu]
  exact State.answer_response _ (.inl h.unicast) _

/-- At a GOOD end, which is the end of a forwarded frame, the node is LOCKED and the lost flag clear (R22, R92). -/
theorem closeFrame_locked (h : AtGoodEnd s f e) (hlaw : LinkLaw s) :
    (closeFrame f e s).s.link.state = .locked ∧ (closeFrame f e s).s.link.lostFlag = false := by
  have hlocked := hlaw.forwarded f h.flight h.forwarded
  obtain ⟨-, -, -, hlink, -⟩ := closeFrame_host f e s
  rw [hlink]
  exact ⟨hlocked, hlaw.flag (.inl hlocked)⟩

end

/-- Settles O40: the answer is the status words of the state that the frame end leaves. -/
theorem readStatusReportsTheState : Obligations.ReadStatusReportsTheState := by
  unfold Obligations.ReadStatusReportsTheState
  intro s f e r h
  refine ⟨_, Carries.exec_eq (.inl h), fun h0 => ?_, fun h0 =>
    h.refused_answer (by simp [checkCommand, checkReadStatus, require, h0])⟩
  obtain ⟨w0, w1, w2, w3, hwords, hstate, hlost, hcommit, hactive, hcopy, hgate, hzero, hE, hrecords, hqueue, hzero',
    hunlocked, hzero'', hF, hchannels⟩ := statusWords_fields (closeFrame f e s).s
  refine ⟨w0, w1, w2, w3, hwords ▸ readStatus_answered h h0, hstate, hlost, hcommit, hactive, hcopy, hgate, hzero, hE,
    hrecords, hqueue, hzero', hunlocked, hzero'', hF, hchannels, fun hlaw => ?_⟩
  obtain ⟨hlocked, hclear⟩ := closeFrame_locked h.toAtGoodEnd hlaw
  exact ⟨by rw [hstate, hlocked]; rfl, hlost.trans hclear⟩

end Sys2Proof.Machine
end

section
/-! SUPPORT. SET PARAMETER by itself: its checks, the value held after it, and what the owner of the parameter does (R86,
R112, R113, R130). -/

namespace Sys2Proof.Machine

/-! ### The checks (R112, R113) -/

section
variable {r : Request} {p : ParamId} {w v : Word}

theorem checkSetParameter_of_accepts (h2 : r.count = 2) (hp : paramOf r.p0 = some p) (ha : p.accepts r.p1 = true) :
    checkSetParameter r = none := by
  simp [checkSetParameter, require, h2, hp, ha]

/-- A SET PARAMETER that fails a check draws BAD_PARAMETER (R113). -/
theorem checkSetParameter_cases (r : Request) :
    checkSetParameter r = none ∨ checkSetParameter r = some (.badParameter, []) := by
  unfold checkSetParameter require
  split
  · split
    · exact ite_eq_or_eq ..
    · exact .inr rfl
  · exact .inr rfl

/-- The ids and the ranges of R112. -/
theorem parameterFits_of_accepts (hp : paramOf w = some p) (ha : p.accepts v = true) : ParameterFits w v := by
  unfold ParameterFits
  unfold paramOf at hp
  split at hp
  · next h => cases hp; exact .inl ⟨beq_iff_eq.1 h, of_decide_eq_true ha⟩
  split at hp
  · next h => cases hp; exact .inr (.inl ⟨beq_iff_eq.1 h, by simpa [ParamId.accepts] using ha⟩)
  split at hp
  · next h => cases hp; exact .inr (.inr (.inl ⟨beq_iff_eq.1 h, by simpa [ParamId.accepts] using ha⟩))
  split at hp
  · next h => cases hp; exact .inr (.inr (.inr (.inl ⟨beq_iff_eq.1 h, of_decide_eq_true ha⟩)))
  split at hp
  · next h => cases hp; exact .inr (.inr (.inr (.inr (.inl ⟨beq_iff_eq.1 h, of_decide_eq_true ha⟩))))
  split at hp
  · cases hp
  split at hp
  · next h8 h =>
    cases hp
    have hv : v.toNat ≤ 255 := of_decide_eq_true ha
    omega
  split at hp
  · next h16 => cases hp; omega
  · cases hp

theorem parameterFits_of_check (h : checkSetParameter r = none) : r.count = 2 ∧ ParameterFits r.p0 r.p1 := by
  obtain ⟨p, hp, ha⟩ := checkSetParameter_eq_none h
  obtain ⟨h2, -⟩ := require_eq_none.1 h
  exact ⟨beq_iff_eq.1 h2, parameterFits_of_accepts hp ha⟩

/-! ### The value held (R113) -/

theorem Parameters.put_put (t : Parameters) (p : ParamId) (w : Word) : (t.put p w).put p w = t.put p w := by
  cases p
  case holdLimit c => simp [put]
  case safeValue c => simp [put]
  all_goals rfl

theorem doSetParameter_data (hp : paramOf r.p0 = some p) (t : State) :
    (doSetParameter r t).2 = [(t.cmd.params.put p r.p1).word p] := by
  rw [← doSetParameter_params hp]
  unfold doSetParameter
  rw [hp]

theorem numWord_toNat (w : Word) : numWord w.toNat = w := by
  simp [numWord]

theorem word_put_noticeMask (t : Parameters) (h : w.toNat ≤ 255) : (t.put .noticeMask w).word .noticeMask = w := by
  show (w.extractLsb' 0 8).zeroExtend 32 = w
  apply BitVec.eq_of_toNat_eq
  simp [BitVec.extractLsb'_toNat]
  omega

theorem word_put_snapOnSyncLoss (t : Parameters) (h : w.toNat ≤ 1) :
    (t.put .snapOnSyncLoss w).word .snapOnSyncLoss = w := by
  show numWord (once (w == 1)) = w
  by_cases h1 : w = 1
  · subst h1
    rfl
  · have h0 : w = 0 := by bv_omega
    subst h0
    rfl

theorem word_put_holdLimit (t : Parameters) (c : Channel) (w : Word) :
    (t.put (.holdLimit c) w).word (.holdLimit c) = w := by
  show numWord (t.holdLimit.set c w.toNat)[c] = w
  rw [Fin.getElem_fin, Vector.getElem_set_self, numWord_toNat]

theorem word_put_safeValue (t : Parameters) (c : Channel) (w : Word) :
    (t.put (.safeValue c) w).word (.safeValue c) = (w.extractLsb' 0 24).signExtend 32 := by
  show sampleWord (t.safeValue.set c (wordSample w))[c] = _
  rw [Fin.getElem_fin, Vector.getElem_set_self]
  rfl

/-! ### What the owner does -/

theorem State.putParam_same {t : State} (h : (t.putParam p w).cmd.params = t.cmd.params) : t.putParam p w = t := by
  have hput : t.cmd.params.put p w = t.cmd.params := h
  unfold State.putParam
  rw [hput]

/-- A value equal to the one held changes nothing (R113). -/
theorem doSetParameter_again {t : State} (hp : paramOf r.p0 = some p) (h : t.cmd.params.put p r.p1 = t.cmd.params) :
    (doSetParameter r t).1 = t := by
  unfold doSetParameter
  rw [hp]
  exact if_pos h

/-- A parameter other than NOTICE_MASK and the hold limits is stored, and its owner does nothing at once (R21, R87, R119,
R127, R154). -/
theorem doSetParameter_stores (hp : paramOf r.p0 = some p) (hm : p ≠ .noticeMask) (hh : p.isHoldLimit = false)
    (t : State) : (doSetParameter r t).1 = t.putParam p r.p1 := by
  unfold doSetParameter
  rw [hp]
  dsimp only
  split
  · next heq => exact (State.putParam_same heq).symm
  · cases p with
    | noticeMask => exact absurd rfl hm
    | holdLimit c => cases hh
    | courtesyGap | flywheelLimit | noticeResend | snapOnSyncLoss | safeValue c => rfl

/-- A new hold limit at or below the age of its channel, which was below the old one, expires it at once (R86). -/
theorem doSetParameter_expires {t : State} {c : Channel} {x : Sample} {age : Nat}
    (hp : paramOf r.p0 = some (.holdLimit c)) (ho : t.outputs[c] = .live x age)
    (hlive : t.cmd.params.holdLimit[c] ≠ 0 → age < t.cmd.params.holdLimit[c]) (h0 : r.p1 ≠ 0)
    (hle : r.p1.toNat ≤ age) : (doSetParameter r t).1 =
      State.raise { t.putParam (.holdLimit c) r.p1 with outputs := t.outputs.set c .safe }
        (.outputExpired (safeMask (t.outputs.set c .safe))) := by
  have hnat : r.p1.toNat ≠ 0 := fun h => h0 (BitVec.eq_of_toNat_eq h)
  have hput : (t.putParam (.holdLimit c) r.p1).cmd.params.holdLimit[c] = r.p1.toNat := Vector.getElem_set_self c.isLt
  have hnew : (t.putParam (.holdLimit c) r.p1).cmd.params ≠ t.cmd.params := by
    intro heq
    rw [heq] at hput
    rw [hput] at hlive
    exact absurd (hlive hnat) (Nat.not_lt.2 hle)
  have hexpires : OutputChannel.expiresUnder (t.putParam (.holdLimit c) r.p1).cmd.params.holdLimit[c]
      (t.putParam (.holdLimit c) r.p1).outputs[c] = true := by
    rw [hput, State.putParam_outputs, ho]
    simp [OutputChannel.expiresUnder, hnat, hle]
  unfold doSetParameter
  rw [hp]
  dsimp only
  rw [if_neg hnew]
  exact if_pos hexpires

/-- One that is 0, or above the age of its channel, is stored (R86). -/
theorem doSetParameter_spares {t : State} {c : Channel} (hp : paramOf r.p0 = some (.holdLimit c))
    (hs : ∀ x age, t.outputs[c] = .live x age → r.p1 = 0 ∨ age < r.p1.toNat) :
    (doSetParameter r t).1 = t.putParam (.holdLimit c) r.p1 := by
  have hput : (t.putParam (.holdLimit c) r.p1).cmd.params.holdLimit[c] = r.p1.toNat := Vector.getElem_set_self c.isLt
  unfold doSetParameter
  rw [hp]
  dsimp only
  split
  · next heq => exact (State.putParam_same heq).symm
  · refine if_neg ?_
    rw [hput, State.putParam_outputs]
    cases ho : t.outputs[c] with
    | unassigned | safe => simp [OutputChannel.expiresUnder]
    | live x age =>
      rcases hs x age ho with h | h
      · simp [OutputChannel.expiresUnder, h]
      · simp [OutputChannel.expiresUnder, h]

end

/-! ### The notice mask (R124, R130) -/

/-- No record is of a kind that the mask bars (R124, R130). -/
structure NoticeQueue.Enabled (q : NoticeQueue) (mask : BitVec 8) : Prop where
  kinds : ∀ r ∈ q.records, mask.getLsbD (noticeIndex r.kind).val = true

section
variable {q : NoticeQueue} {mask : BitVec 8}

/-- What changes records without changing their kinds, or removes some, keeps them enabled. -/
theorem NoticeQueue.Enabled.of_kinds (h : q.Enabled mask) {q' : NoticeQueue}
    (hk : ∀ r ∈ q'.records, ∃ r' ∈ q.records, r.kind = r'.kind) : q'.Enabled mask := by
  refine ⟨fun r hr => ?_⟩
  obtain ⟨r', hr', he⟩ := hk r hr
  rw [he]
  exact h.kinds r' hr'

theorem NoticeQueue.Enabled.raise (h : q.Enabled mask) (item : RegionItem) (n : Notice) :
    (q.raise mask item n).Enabled mask := by
  unfold NoticeQueue.raise
  split
  · exact h
  · next hn =>
    have hbit : mask.getLsbD (noticeIndex n.kind).val = true := by simpa using hn
    split
    · refine ⟨fun r hr => ?_⟩
      rcases mem_modifyFirst hr with hr | ⟨r', -, rfl⟩
      · exact h.kinds r hr
      · rw [NoticeRecord.kind_fold]
        exact hbit
    · split
      · refine ⟨fun r hr => ?_⟩
        rcases List.mem_append.1 hr with hr | hr
        · exact h.kinds r hr
        · rw [List.mem_singleton.1 hr]
          exact hbit
      · exact h.of_kinds fun r hr => ⟨r, hr, rfl⟩

theorem NoticeRecord.kind_settle (d : Bool) (k : Nat) (n : SequenceNumber) (r : NoticeRecord) :
    (r.settle d k n).kind = r.kind := by
  unfold NoticeRecord.settle
  split
  · split
    · split <;> rfl
    · rfl
  · rfl

theorem NoticeRecord.kind_countDown (r : NoticeRecord) : r.countDown.kind = r.kind := by
  unfold NoticeRecord.countDown
  split <;> rfl

theorem NoticeQueue.Enabled.settle (h : q.Enabled mask) (d : Bool) (resend : Nat) (k : NoticeKind) :
    (q.settle d resend k).Enabled mask := by
  refine h.of_kinds fun r hr => ?_
  rcases mem_modifyFirst hr with hr | ⟨r', hr', rfl⟩
  · exact ⟨r, hr, rfl⟩
  · exact ⟨r', hr', NoticeRecord.kind_settle ..⟩

theorem NoticeQueue.enabled_maskOff (q : NoticeQueue) (mask : BitVec 8) : (q.maskOff mask).Enabled mask :=
  ⟨fun _ hr => (List.mem_filter.1 hr).2⟩

/-- A mask that bars none of the records removes none. -/
theorem NoticeQueue.Enabled.maskOff_eq (h : q.Enabled mask) : q.maskOff mask = q := by
  unfold NoticeQueue.maskOff
  rw [List.filter_eq_self.2 h.kinds]

end

/-- No record of the node is of a kind that the mask held bars. -/
def State.Enabled (s : State) : Prop := s.notices.Enabled s.cmd.params.noticeMask

theorem NoticesDistinct.toEnabled {s : State} (h : NoticesDistinct s) : s.Enabled := ⟨h.enabled⟩

/-- A new NOTICE_MASK removes the records of the kinds that it bars (R130). -/
theorem doSetParameter_masks {r : Request} {t : State} (hp : paramOf r.p0 = some .noticeMask) (h : t.Enabled) :
    (doSetParameter r t).1 =
      { t.putParam .noticeMask r.p1 with notices := t.notices.maskOff (r.p1.extractLsb' 0 8) } := by
  unfold doSetParameter
  rw [hp]
  dsimp only
  split
  · next heq =>
    have hmask : t.cmd.params.noticeMask = r.p1.extractLsb' 0 8 := (congrArg Parameters.noticeMask heq).symm
    rw [State.putParam_same heq, ← hmask, h.maskOff_eq]
  · rfl

theorem mask_bit (w : Word) (k : NoticeKind) :
    (w.extractLsb' 0 8).getLsbD (noticeIndex k).val = w.getLsbD (noticeIndex k).val := by
  simp

end Sys2Proof.Machine
end

section
/-! SUPPORT. The capture of a frame end whose gate is STOPPED: the triggers that come to it, and the notice it raises
(R154 to R157). -/

namespace Sys2Proof.Machine

/-- `w` is the end of frame `f` as the Snapshot Unit meets it, in a node that was `s`: the gate is STOPPED, the test of
the schedule alone has reached the Snapshot Unit, no item is left, and no command captures. -/
structure Closing.AtCapture (w : Closing) (s : State) (f : FrameInFlight) : Prop where
  gate : w.s.counters.gate = false
  fired : w.fired = s.snaps.firesAt f.number
  snaps : w.s.snaps = { s.snaps with scheduled := w.s.snaps.scheduled }
  frame : w.frame = f
  item : w.s.arb.item = .none
  captures : w.taking.captures = false
  syncLoss : w.s.cmd.params.snapOnSyncLoss = s.cmd.params.snapOnSyncLoss

theorem SnapshotUnit.firesAt_iff {u : SnapshotUnit} {n : FrameNumber} :
    u.firesAt n = true ↔ ∃ F, u.scheduled = some F ∧ (n - F).toNat < 131072 := by
  unfold SnapshotUnit.firesAt
  cases u.scheduled with
  | none => simp
  | some F => simp [atOrPast_iff]

theorem CounterBank.wrapTrigger_stopped {b : CounterBank} (h : b.gate = false) : b.wrapTrigger = false := by
  simp [CounterBank.wrapTrigger, CounterBank.wrapsAt, CounterBank.evaluates, h]

section
variable {w : Closing} {s : State} {f : FrameInFlight} {e : FrameClose}

/-- With the gate STOPPED the schedule and a sync loss are the only triggers (R154, R155). -/
theorem Closing.AtCapture.causes_iff (h : w.AtCapture s f) :
    (w.causes w.s.counters).any = true ↔ Triggers s f := by
  have hmark : w.s.snaps.syncLossMark = s.snaps.syncLossMark := by rw [h.snaps]
  simp [Causes.any, Closing.causes, Triggers, h.captures, h.fired, h.syncLoss, hmark,
    CounterBank.wrapTrigger_stopped h.gate, SnapshotUnit.firesAt_iff]

/-- The counting raises the notice of the capture, or of its loss, where there is a trigger, and nothing otherwise
(R156, R157). -/
theorem Closing.AtCapture.count_notices (h : w.AtCapture s f) :
    (Triggers s f → w.count.s.notices
        = w.s.notices.raise w.s.cmd.params.noticeMask .none (captureNotice s f))
      ∧ (¬Triggers s f → w.count.s.notices = w.s.notices) := by
  obtain ⟨hq, hserial, hlost⟩ : w.s.snaps.queue = s.snaps.queue ∧ w.s.snaps.serial = s.snaps.serial
      ∧ w.s.snaps.lost = s.snaps.lost := by rw [h.snaps]; exact ⟨rfl, rfl, rfl⟩
  rw [← h.causes_iff]
  show (_ → (State.captureStep { w.s with counters := w.s.counters.evaluate } w.frame.number
      (w.causes w.s.counters)).notices = _) ∧ (_ → (State.captureStep { w.s with counters := w.s.counters.evaluate }
      w.frame.number (w.causes w.s.counters)).notices = _)
  rcases State.captureStep_cases { w.s with counters := w.s.counters.evaluate } w.frame.number
    (w.causes w.s.counters) with ⟨ha, hs⟩ | ⟨ha, hlt, hs⟩ | ⟨ha, hge, hs⟩ <;> rw [hs]
  · exact ⟨fun hn => absurd (ha.symm.trans hn) (by decide), fun _ => rfl⟩
  · refine ⟨fun _ => ?_, fun hn => absurd ha hn⟩
    change w.s.snaps.queue.length < 4 at hlt
    rw [hq] at hlt
    show w.s.notices.raise w.s.cmd.params.noticeMask w.s.arb.item
      (.snapshotReady w.frame.number (w.s.snaps.queue.length + 1) w.s.snaps.serial) = _
    rw [h.item, h.frame, hq, hserial, captureNotice, if_pos hlt]
  · refine ⟨fun _ => ?_, fun hn => absurd ha hn⟩
    change 4 ≤ w.s.snaps.queue.length at hge
    rw [hq] at hge
    show w.s.notices.raise w.s.cmd.params.noticeMask w.s.arb.item
      (.snapshotLost (min 255 (w.s.snaps.lost + 1))) = _
    rw [h.item, hlost, captureNotice, if_neg (Nat.not_lt.2 hge)]

/-- Every frame end comes so to its capture, with the gate STOPPED and no capturing command. -/
theorem settled_atCapture (hgate : s.counters.gate = false) (hcap : (Closing.settled f e s).taking.captures = false)
    (hparam : (Closing.settled f e s).s.cmd.params.snapOnSyncLoss = s.cmd.params.snapOnSyncLoss) :
    (Closing.settled f e s).AtCapture s f := by
  obtain ⟨hfired, hsnaps⟩ := Closing.begin_snaps f e s
  have hsame := Closing.worked_same f e s
  obtain ⟨hframe, -, -, -, hfired', -⟩ := hsame.closing
  refine ⟨(settled_counters s f e).2.trans hgate, hfired'.trans hfired, ?_, hframe.trans (Closing.begin_frame f e s), rfl,
    hcap, hparam⟩
  show (Closing.worked f e s).s.snaps = { s.snaps with scheduled := (Closing.worked f e s).s.snaps.scheduled }
  rw [hsame.snaps, hsnaps]
  split <;> rfl

/-- What a new hold limit does before the capture leaves that so. -/
theorem Closing.AtCapture.beforeCapture (h : w.AtCapture s f) : w.beforeCapture.AtCapture s f := by
  obtain ⟨l, o, n, hb⟩ := w.beforeCapture_eq
  obtain ⟨h1, h2, h3, h4, h5, h6, h7⟩ := h
  rw [hb]
  exact ⟨h1, h2, h3, h4, h5, h6, h7⟩

/-- The channels stand from their own work to the capture. -/
theorem settled_outputs (f : FrameInFlight) (e : FrameClose) (s : State) :
    (Closing.settled f e s).s.outputs = (Closing.begin f e s).s.outputs :=
  (Closing.worked_same f e s).outputs

/-! ### Without a command -/

theorem NoCommand.settled_params (h : NoCommand s) (f : FrameInFlight) (e : FrameClose) :
    (Closing.settled f e s).s.cmd.params = s.cmd.params := by
  obtain ⟨items, hc, -, hw⟩ := h.worked_eq f e
  obtain ⟨x, hx⟩ := (Closing.begin f e s).meet_cmd hc
  show (Closing.worked f e s).s.cmd.params = _
  rw [hw, hx, Closing.begin_cmd]

theorem NoCommand.settled_taking (h : NoCommand s) (f : FrameInFlight) (e : FrameClose) :
    (Closing.settled f e s).taking = .nothing := by
  rw [Machine.settled_taking, h.command_eq]
  exact congrArg CommandMarks.taking (Closing.beforeCommand_marks f e s)

/-- A frame end without a command raises the notice of the capture where there is a trigger. -/
theorem NoCommand.closeFrame_notices (h : NoCommand s) (hgate : s.counters.gate = false) :
    (Triggers s f → (closeFrame f e s).s.notices
        = (Closing.settled f e s).s.notices.raise s.cmd.params.noticeMask .none (captureNotice s f))
      ∧ (¬Triggers s f → (closeFrame f e s).s.notices = (Closing.settled f e s).s.notices) := by
  have hparams := h.settled_params f e
  have hat : (Closing.settled f e s).AtCapture s f :=
    settled_atCapture hgate (by rw [h.settled_taking]; rfl) (by rw [hparams])
  have hcount := hat.count_notices
  rw [hparams] at hcount
  rw [h.closeFrame_eq]
  exact hcount

/-- The frame end without the command has the channels of the frame end with it. -/
theorem closeFrame_withoutCommand_outputs (f : FrameInFlight) (e : FrameClose) (s : State) :
    (closeFrame f e s.withoutCommand).s.outputs = (Closing.begin f e s).s.outputs := by
  obtain ⟨-, -, hout⟩ := s.withoutCommand_noCommand.closeFrame_channels (f := f) (e := e)
  rw [hout, Closing.begin_withoutCommand]
  rfl

/-! ### The notices of a frame end that raises none -/

/-- The resend step comes before the command (R128; assumption 4). -/
theorem resend_mem_placeResend {l : List EndItem} (h : EndItem.resend ∈ l) :
    EndItem.resend ∈ (placeResend l).takeWhile (· != .command) := by
  induction l with
  | nil => cases h
  | cons i rest ih =>
    unfold placeResend
    split
    · next hi => simp [beq_iff_eq.1 hi]
    · next hi =>
      split
      · simp
      · next hd =>
        have hne : (i != .command) = true := by
          rw [bne_iff_ne]
          rintro rfl
          exact hd rfl
        have hrest : EndItem.resend ∈ rest := (List.mem_cons.1 h).resolve_left fun heq => hi (beq_iff_eq.2 heq.symm)
        rw [List.takeWhile_cons, if_pos hne]
        exact List.mem_cons_of_mem _ (ih hrest)

theorem resend_mem_before (e : FrameClose) : EndItem.resend ∈ (endItems e).takeWhile (· != .command) :=
  resend_mem_placeResend (mem_keepFirst.2 ⟨List.mem_append_right _ (by decide), by simp⟩)

theorem Closing.Unraised.of_same {v : Closing} (h : w.Unraised) (hs : w.SameElsewhere v)
    (hi : v.s.arb.item = w.s.arb.item) : v.Unraised := by
  obtain ⟨hframe, hout, hx, -⟩ := hs.closing
  exact ⟨hi.trans h.item, by rw [hframe, hout]; exact h.number, hx.trans h.expiry⟩

/-- Where nothing is raised or delivered, the works other than the command leave the notices to the resend step. -/
theorem Closing.Unraised.item_notices (h : w.Unraised) {i : EndItem} (hi : i ≠ .command) :
    (w.item i).s.notices = if i = .resend then { w.s.notices with records := Resent w.s.notices.records }
      else w.s.notices := by
  cases i with
  | command => exact absurd rfl hi
  | resend => rfl
  | delivery => rw [Closing.item, Closing.delivery_quiet h.item]; rfl
  | jumpRaise => rw [Closing.item, Closing.jumpRaise_quiet h.number]; rfl
  | expiryRaise => rw [Closing.item, Closing.expiryRaise_quiet h.expiry]; rfl
  | copyCompletion =>
    show w.copyCompletion.s.notices = _
    unfold Closing.copyCompletion
    split <;> rfl

/-- The resend step is taken once, if it is among the works. -/
theorem Closing.Unraised.meet_notices (h : w.Unraised) {items : List EndItem} (hc : EndItem.command ∉ items)
    (hn : items.Nodup) : (w.meet items).s.notices = if EndItem.resend ∈ items then
      { w.s.notices with records := Resent w.s.notices.records } else w.s.notices := by
  unfold Closing.meet
  induction items generalizing w with
  | nil => rfl
  | cons i rest ih =>
    obtain ⟨hne, hrest⟩ := List.ne_and_not_mem_of_not_mem_cons hc
    obtain ⟨hi, hn'⟩ := List.nodup_cons.1 hn
    obtain ⟨hv, -⟩ := h.item_seqCounter hne.symm
    rw [List.foldl_cons, ih hv hrest hn', h.item_notices hne.symm]
    by_cases hr : i = .resend
    · subst hr
      simp [hi]
    · simp [hr, Ne.symm hr]

theorem begin_unraised (e : FrameClose) (hc : Calm s) (hn : NothingRaised s f) : (Closing.begin f e s).Unraised :=
  ⟨by simpa using hc.item, by simp [FrameInFlight.jumps, hn.number], begin_expired_nil f e hn.outputs⟩

/-- A calm frame end that raises nothing comes to its command with the resend step done. -/
theorem beforeCommand_calm (e : FrameClose) (hc : Calm s) (hn : NothingRaised s f) :
    (Closing.beforeCommand f e s).Unraised
      ∧ (Closing.beforeCommand f e s).s.notices = { s.notices with records := Resent s.notices.records } := by
  have hbegin := begin_unraised e hc hn
  obtain ⟨-, -, hb, -⟩ := endItems_split e
  have hnodup : ((endItems e).takeWhile (· != .command)).Nodup :=
    (List.takeWhile_sublist _).nodup (endItems_nodup e)
  refine ⟨(hbegin.meet_seqCounter hb).1, ?_⟩
  rw [Closing.beforeCommand, hbegin.meet_notices hb hnodup, if_pos (resend_mem_before e), Closing.begin_notices]

/-- The works after the command find the resend step done. -/
theorem worked_calm_notices (e : FrameClose) (h : (Closing.beforeCommand f e s).command.Unraised) :
    (Closing.worked f e s).s.notices = (Closing.beforeCommand f e s).command.s.notices := by
  obtain ⟨after, he, -, ha⟩ := endItems_split e
  have hn := endItems_nodup e
  rw [he, List.nodup_append] at hn
  obtain ⟨-, hafter, hdisjoint⟩ := hn
  have hr : EndItem.resend ∉ after := fun hr =>
    hdisjoint _ (resend_mem_before e) _ (List.mem_cons_of_mem _ hr) rfl
  rw [worked_of_endItems he, h.meet_notices ha (List.nodup_cons.1 hafter).2, if_neg hr]

/-- A calm node has no trigger (R154). -/
theorem Calm.not_triggers (h : Calm s) (f : FrameInFlight) : ¬Triggers s f := by
  rintro (⟨F, hF, -⟩ | ⟨hm, -⟩)
  · cases h.scheduled.symm.trans hF
  · cases h.mark.symm.trans hm

/-! ### The enabled kinds through the works (R124, R130) -/

theorem Closing.item_enabled (h : w.s.Enabled) {i : EndItem} (hi : i ≠ .command) : (w.item i).s.Enabled := by
  cases i with
  | command => exact absurd rfl hi
  | resend =>
    refine NoticeQueue.Enabled.of_kinds h fun r hr => ?_
    obtain ⟨r', hr', rfl⟩ := List.mem_map.1 hr
    exact ⟨r', hr', NoticeRecord.kind_countDown r'⟩
  | delivery =>
    show State.Enabled (w.s.settleItem w.outcome.delivers)
    unfold State.settleItem
    split
    · exact h
    · exact NoticeQueue.Enabled.settle h ..
    · split
      · split <;> exact h
      all_goals exact h
  | jumpRaise =>
    show w.jumpRaise.s.Enabled
    unfold Closing.jumpRaise
    split
    · exact NoticeQueue.Enabled.raise h ..
    · exact h
  | expiryRaise =>
    show w.expiryRaise.s.Enabled
    unfold Closing.expiryRaise
    split
    · exact h
    · exact NoticeQueue.Enabled.raise h ..
  | copyCompletion =>
    show w.copyCompletion.s.Enabled
    unfold Closing.copyCompletion
    split <;> exact h

theorem Closing.meet_enabled (h : w.s.Enabled) {items : List EndItem} (hc : EndItem.command ∉ items) :
    (w.meet items).s.Enabled := by
  unfold Closing.meet
  induction items generalizing w with
  | nil => exact h
  | cons i rest ih =>
    obtain ⟨hi, hrest⟩ := List.ne_and_not_mem_of_not_mem_cons hc
    exact ih (w.item_enabled h hi.symm) hrest

theorem Closing.count_enabled (h : w.s.Enabled) : w.count.s.Enabled := by
  show State.Enabled (State.captureStep { w.s with counters := w.s.counters.evaluate } w.frame.number
    (w.causes w.s.counters))
  rcases State.captureStep_cases { w.s with counters := w.s.counters.evaluate } w.frame.number
    (w.causes w.s.counters) with ⟨-, hs⟩ | ⟨-, -, hs⟩ | ⟨-, -, hs⟩ <;> rw [hs]
  · exact h
  · exact NoticeQueue.Enabled.raise h ..
  · exact NoticeQueue.Enabled.raise h ..

end

end Sys2Proof.Machine
end

section
/-! SUPPORT. The frame end that accepts a SET PARAMETER: the node as the Snapshot Unit meets it, as it is counted, and as
the frame end leaves it, beside the frame end without the command (R86, R113, R130; assumption 16). -/

namespace Sys2Proof.Machine

/-- The frame end executes `r`, a SET PARAMETER of parameter `p` that passes its checks. -/
structure SetsParameter (s : State) (f : FrameInFlight) (e : FrameClose) (r : Request) (p : ParamId) : Prop
    extends Executes s f e r .setParameter where
  param : paramOf r.p0 = some p
  fits : checkSetParameter r = none

section
variable {s : State} {f : FrameInFlight} {e : FrameClose} {r : Request} {p : ParamId} {c : Channel}

theorem SetsParameter.command_eq (h : SetsParameter s f e r p) : (Closing.beforeCommand f e s).command
    = ((Closing.beforeCommand f e s).sequenced (s.sequenceAfter r)).acceptedAs r .setParameter :=
  Carries.command_eq (.inl h.toExecutes) h.not_broadcast h.fits

theorem SetsParameter.taking (h : SetsParameter s f e r p) :
    (Closing.settled f e s).taking = .accepted r .setParameter := by
  rw [settled_taking, h.command_eq]
  rfl

theorem beforeCommand_snapshotFirst (f : FrameInFlight) (e : FrameClose) (s : State) :
    (Closing.beforeCommand f e s).snapshotFirst = e.snapshotFirst := by
  obtain ⟨-, -, -, -, -, -, hfirst⟩ := ((Closing.begin f e s).meet_same _).closing
  obtain ⟨-, -, -, -, -, -, -, -, -, -, -, -, -, -, -, hbegin⟩ := Closing.begin_state f e s
  exact hfirst.trans hbegin

theorem settled_snapshotFirst (f : FrameInFlight) (e : FrameClose) (s : State) :
    (Closing.settled f e s).snapshotFirst = e.snapshotFirst := by
  obtain ⟨-, -, -, -, -, -, hfirst⟩ := (Closing.worked_same f e s).closing
  obtain ⟨-, -, -, -, -, -, -, -, -, -, -, -, -, -, -, hbegin⟩ := Closing.begin_state f e s
  exact hfirst.trans hbegin

theorem beforeCommand_params (f : FrameInFlight) (e : FrameClose) (s : State) :
    (Closing.beforeCommand f e s).s.cmd.params = s.cmd.params := by
  obtain ⟨-, -, hb, -⟩ := endItems_split e
  obtain ⟨x, hx⟩ := (Closing.begin f e s).meet_cmd hb
  rw [Closing.beforeCommand, hx, Closing.begin_cmd]

/-- The works after the command leave its parameters alone. -/
theorem settled_params (f : FrameInFlight) (e : FrameClose) (s : State) :
    (Closing.settled f e s).s.cmd.params = (Closing.beforeCommand f e s).command.s.cmd.params := by
  obtain ⟨after, ha, hw⟩ := worked_split f e s
  obtain ⟨x, hx⟩ := (Closing.beforeCommand f e s).command.meet_cmd ha
  show (Closing.worked f e s).s.cmd.params = _
  rw [hw, hx]

/-! ### A command that waits for the counting, and a new mask that does not -/

/-- Unless it sets NOTICE_MASK before the capture, the command leaves its marks alone where the works meet (R130;
assumption 16). -/
theorem SetsParameter.waits (h : SetsParameter s f e r p) (hw : ¬(p = .noticeMask ∧ e.snapshotFirst = false)) :
    (Closing.beforeCommand f e s).command = (Closing.beforeCommand f e s).marked
      { held := (Closing.beforeCommand f e s).s.cmd.inFlight
        amounts := { taken := true, refused := false, overrun := false, resent := false }
        broadcastSeq := s.sequenceAfter r, taking := .accepted r .setParameter } := by
  have hmeet : ∀ t : State, meetCommand .setParameter r (Closing.beforeCommand f e s).snapshotFirst t = t := fun t => by
    refine if_neg ?_
    rw [beforeCommand_snapshotFirst, h.param, Option.some_inj]
    exact hw
  rw [h.command_eq]
  unfold Closing.acceptedAs Closing.sequenced
  dsimp only
  rw [hmeet]
  rfl

/-- So the Snapshot Unit finds the parameters and the notices of the frame end without it. -/
theorem SetsParameter.settled_waits (h : SetsParameter s f e r p) (hw : ¬(p = .noticeMask ∧ e.snapshotFirst = false)) :
    (Closing.settled f e s).s.cmd.params = s.cmd.params
      ∧ (Closing.settled f e s).s.notices = (Closing.settled f e s.withoutCommand).s.notices := by
  obtain ⟨w, -, hs, hq⟩ := settled_of_marked (h.waits hw)
  have hparams := s.withoutCommand_noCommand.settled_params f e
  rw [hq] at hparams
  rw [hs, hq]
  exact ⟨hparams, rfl⟩

/-- A new NOTICE_MASK before the capture acts where the works meet. -/
theorem SetsParameter.masks (h : SetsParameter s f e r .noticeMask) (hfirst : e.snapshotFirst = false) :
    (Closing.beforeCommand f e s).command.s =
      (doSetParameter r ((Closing.beforeCommand f e s).sequenced (s.sequenceAfter r)).s).1.countCommand
        true false false false := by
  rw [h.command_eq]
  show State.countCommand (meetParameter r (Closing.beforeCommand f e s).snapshotFirst _) .. = _
  rw [meetParameter, if_pos ⟨h.param, (beforeCommand_snapshotFirst f e s).trans hfirst⟩]

theorem SetsParameter.settled_masks (h : SetsParameter s f e r .noticeMask) (hfirst : e.snapshotFirst = false) :
    (Closing.settled f e s).s.cmd.params = s.cmd.params.put .noticeMask r.p1 := by
  rw [settled_params, h.masks hfirst, ← beforeCommand_params f e s]
  exact doSetParameter_params h.param _

/-! ### The capture and the counting -/

/-- Neither a capture nor its trigger comes from the command. -/
theorem SetsParameter.capturing (h : SetsParameter s f e r p) (hgate : s.counters.gate = false)
    (hparam : (Closing.settled f e s).s.cmd.params.snapOnSyncLoss = s.cmd.params.snapOnSyncLoss) :
    (Closing.settled f e s).AtCapture s f :=
  settled_atCapture hgate (by rw [h.taking]; rfl) hparam

/-- Only a hold limit set before the capture acts there. -/
theorem SetsParameter.beforeCapture_stands (h : SetsParameter s f e r p)
    (hs : e.snapshotFirst = true ∨ p.isHoldLimit = false) :
    (Closing.settled f e s).beforeCapture = Closing.settled f e s := by
  unfold Closing.beforeCapture
  rcases hs with hs | hs
  · exact if_pos ((settled_snapshotFirst f e s).trans hs)
  · have hidle : (Closing.settled f e s).taking.beforeCapture (Closing.settled f e s).s = (Closing.settled f e s).s := by
      simp [h.taking, Taking.beforeCapture, limitBeforeCapture, h.param, hs]
    rw [hidle]
    exact ite_self _

theorem SetsParameter.beforeCapture_acts (h : SetsParameter s f e r p) (hfirst : e.snapshotFirst = false)
    (hp : p.isHoldLimit = true) : (Closing.settled f e s).beforeCapture.s = (doSetParameter r (atCapture s f e)).1 := by
  unfold Closing.beforeCapture
  rw [settled_snapshotFirst, h.taking, if_neg (by simp [hfirst])]
  simp [Taking.beforeCapture, limitBeforeCapture, h.param, hp, atCapture]

theorem countedState_params (f : FrameInFlight) (e : FrameClose) (s : State) :
    (countedState f e s).cmd.params = (Closing.settled f e s).beforeCapture.s.cmd.params := by
  obtain ⟨-, -, -, -, -, -, -, hcmd, -⟩ := Closing.count_state (Closing.settled f e s).beforeCapture
  exact congrArg CommandUnit.params hcmd

theorem countedState_outputs (f : FrameInFlight) (e : FrameClose) (s : State) :
    (countedState f e s).outputs = (Closing.settled f e s).beforeCapture.s.outputs := by
  obtain ⟨-, -, -, -, -, -, hout, -⟩ := Closing.count_state (Closing.settled f e s).beforeCapture
  exact hout

/-- The table after the counting has the new value, or has still to take it. -/
theorem SetsParameter.counted_params (h : SetsParameter s f e r p) :
    (countedState f e s).cmd.params = s.cmd.params
      ∨ (countedState f e s).cmd.params = s.cmd.params.put p r.p1 := by
  rw [countedState_params]
  by_cases hm : p = .noticeMask ∧ e.snapshotFirst = false
  · obtain ⟨rfl, hfirst⟩ := hm
    rw [h.beforeCapture_stands (.inr rfl)]
    exact .inr (h.settled_masks hfirst)
  · obtain ⟨hparams, -⟩ := h.settled_waits hm
    by_cases hs : e.snapshotFirst = true ∨ p.isHoldLimit = false
    · rw [h.beforeCapture_stands hs]
      exact .inl hparams
    · simp only [not_or, Bool.not_eq_true, Bool.not_eq_false] at hs
      obtain ⟨hfirst, hp⟩ := hs
      rw [h.beforeCapture_acts hfirst hp, doSetParameter_params h.param]
      exact .inr (congrArg (Parameters.put · p r.p1) hparams)

/-! ### The frame end -/

/-- After the counting the command acts, and is answered. -/
theorem SetsParameter.closeFrame_eq (h : SetsParameter s f e r p) : ∃ x,
    (closeFrame f e s).s = { (doSetParameter r (countedState f e s)).1 with
      cmd := { (doSetParameter r (countedState f e s)).1.cmd with response := x } } := by
  obtain ⟨k, hu⟩ := Carries.closeFrame_accepted (.inl h.toExecutes) h.not_broadcast h.fits
  rw [hu]
  exact State.answer_eq ..

/-- The one parameter is set, and the answer is the value now held (R113). -/
theorem SetsParameter.stores (h : SetsParameter s f e r p) :
    Answered (closeFrame f e s).s r .ok [(s.cmd.params.put p r.p1).word p]
      ∧ (closeFrame f e s).s.cmd.params = s.cmd.params.put p r.p1 := by
  have hput : (countedState f e s).cmd.params.put p r.p1 = s.cmd.params.put p r.p1 := by
    rcases h.counted_params with ht | ht
    · rw [ht]
    · rw [ht, Parameters.put_put]
  constructor
  · obtain ⟨k, hu⟩ := Carries.closeFrame_accepted (.inl h.toExecutes) h.not_broadcast h.fits
    rw [hu]
    refine (State.answer_response _ (.inl h.unicast) _).trans ?_
    show ResponseRecord.unsent { seq := r.seq, tag := r.tag, status := .ok
                                 data := (doSetParameter r (countedState f e s)).2 } = _
    rw [doSetParameter_data h.param, hput]
  · obtain ⟨x, hu⟩ := h.closeFrame_eq
    rw [hu]
    exact (doSetParameter_params h.param _).trans hput

theorem doSetParameter_outputs (hp : paramOf r.p0 = some p) (hh : p.isHoldLimit = false) (t : State) :
    (doSetParameter r t).1.outputs = t.outputs := by
  by_cases hm : p = .noticeMask
  · subst hm
    unfold doSetParameter
    rw [hp]
    dsimp only
    split <;> rfl
  · rw [doSetParameter_stores hp hm hh, State.putParam_outputs]

/-- A parameter that is no hold limit leaves every channel as the frame end does without the command. -/
theorem SetsParameter.outputs_stand (h : SetsParameter s f e r p) (hh : p.isHoldLimit = false) :
    (closeFrame f e s).s.outputs = (closeFrame f e s.withoutCommand).s.outputs := by
  obtain ⟨x, hu⟩ := h.closeFrame_eq
  rw [hu, closeFrame_withoutCommand_outputs, ← settled_outputs]
  show (doSetParameter r (countedState f e s)).1.outputs = _
  rw [doSetParameter_outputs h.param hh, countedState_outputs, h.beforeCapture_stands (.inr hh)]

/-- The notice of the capture at the frame end without the command, in the terms of the frame end with one that waits. -/
theorem SetsParameter.withoutCommand_notices (h : SetsParameter s f e r p)
    (hw : ¬(p = .noticeMask ∧ e.snapshotFirst = false)) (hgate : s.counters.gate = false) :
    (Triggers s f → (closeFrame f e s.withoutCommand).s.notices
        = (atCapture s f e).notices.raise s.cmd.params.noticeMask .none (captureNotice s f))
      ∧ (¬Triggers s f → (closeFrame f e s.withoutCommand).s.notices = (atCapture s f e).notices) := by
  rw [show (atCapture s f e).notices = _ from (h.settled_waits hw).2]
  exact s.withoutCommand_noCommand.closeFrame_notices (f := f) (e := e) hgate

/-- A command that waits for the counting finds its notices there. -/
theorem SetsParameter.counted_notices (h : SetsParameter s f e r p) (hw : ¬(p = .noticeMask ∧ e.snapshotFirst = false))
    (hs : e.snapshotFirst = true ∨ p.isHoldLimit = false) (hgate : s.counters.gate = false) :
    (countedState f e s).notices = (closeFrame f e s.withoutCommand).s.notices := by
  obtain ⟨hparams, -⟩ := h.settled_waits hw
  obtain ⟨hraised, hstand⟩ := (h.capturing hgate (by rw [hparams])).count_notices
  obtain ⟨hraised', hstand'⟩ := h.withoutCommand_notices hw hgate
  rw [countedState, h.beforeCapture_stands hs]
  by_cases ht : Triggers s f
  · rw [hraised ht, hraised' ht, hparams]
    rfl
  · rw [hstand ht, hstand' ht]
    rfl

/-! ### A new hold limit (R86) -/

/-- The age that the frame end leaves a LIVE channel is below the hold limit it was held to (R85). -/
theorem closeFrame_age_below {x : Sample} {age : Nat}
    (ho : (closeFrame f e s.withoutCommand).s.outputs[c] = .live x age) (h0 : s.cmd.params.holdLimit[c] ≠ 0) :
    age < s.cmd.params.holdLimit[c] := by
  rw [closeFrame_withoutCommand_outputs, begin_output] at ho
  exact OutputChannel.frameEnd_within ho h0

/-- A new hold limit before the capture: it acts on the node as the Snapshot Unit meets it, whose notice comes after. -/
theorem SetsParameter.limit_before (h : SetsParameter s f e r (.holdLimit c)) (hfirst : e.snapshotFirst = false) :
    (closeFrame f e s).s.outputs = (doSetParameter r (atCapture s f e)).1.outputs
      ∧ (s.counters.gate = false →
        (Triggers s f → (closeFrame f e s).s.notices = (doSetParameter r (atCapture s f e)).1.notices.raise
            s.cmd.params.noticeMask .none (captureNotice s f))
        ∧ (¬Triggers s f → (closeFrame f e s).s.notices = (doSetParameter r (atCapture s f e)).1.notices)) := by
  have hacts := h.beforeCapture_acts hfirst rfl
  obtain ⟨hparams, -⟩ := h.settled_waits (by simp)
  have hput : (doSetParameter r (atCapture s f e)).1.cmd.params = s.cmd.params.put (.holdLimit c) r.p1 := by
    rw [doSetParameter_params h.param]
    exact congrArg (Parameters.put · (.holdLimit c) r.p1) hparams
  have hagain : (doSetParameter r (countedState f e s)).1 = countedState f e s :=
    doSetParameter_again h.param (by rw [countedState_params, hacts, hput, Parameters.put_put])
  obtain ⟨x, hu⟩ := h.closeFrame_eq
  rw [hagain] at hu
  rw [hu]
  refine ⟨(countedState_outputs f e s).trans (congrArg State.outputs hacts), fun hgate => ?_⟩
  have hcount := (h.capturing hgate (by rw [hparams])).beforeCapture.count_notices
  rw [hacts, hput] at hcount
  exact hcount

/-- One after the capture acts on the counted node. -/
theorem SetsParameter.limit_after (h : SetsParameter s f e r (.holdLimit c)) (hfirst : e.snapshotFirst = true) :
    (countedState f e s).cmd.params = s.cmd.params
      ∧ (countedState f e s).outputs = (closeFrame f e s.withoutCommand).s.outputs
      ∧ (closeFrame f e s).s.outputs = (doSetParameter r (countedState f e s)).1.outputs
      ∧ (closeFrame f e s).s.notices = (doSetParameter r (countedState f e s)).1.notices := by
  obtain ⟨hparams, -⟩ := h.settled_waits (by simp)
  obtain ⟨x, hu⟩ := h.closeFrame_eq
  rw [countedState_params, countedState_outputs, h.beforeCapture_stands (.inl hfirst), hu,
    closeFrame_withoutCommand_outputs, ← settled_outputs]
  exact ⟨hparams, rfl, rfl, rfl⟩

end

end Sys2Proof.Machine
end

section
/-! PROOFS. SET PARAMETER (O41): the value stored and answered, and what the owner of the parameter does about it, in
either order with the capture. -/

namespace Sys2Proof.Machine

section
variable {s : State} {f : FrameInFlight} {e : FrameClose} {r : Request} {p : ParamId} {c : Channel}

/-! ### A new hold limit (R86) -/

/-- A node as a new hold limit of channel `c` finds it: the old limits, the channels of the frame end, no item left. -/
structure MeetsLimit (s q t : State) : Prop where
  params : t.cmd.params = s.cmd.params
  outputs : t.outputs = q.outputs
  item : t.arb.item = .none

theorem SetsParameter.meets_before (h : SetsParameter s f e r (.holdLimit c)) :
    MeetsLimit s (closeFrame f e s.withoutCommand).s (atCapture s f e) := by
  obtain ⟨hparams, -⟩ := h.settled_waits (by simp)
  exact ⟨hparams, by rw [closeFrame_withoutCommand_outputs]; exact settled_outputs f e s, rfl⟩

theorem SetsParameter.meets_after (h : SetsParameter s f e r (.holdLimit c)) (hfirst : e.snapshotFirst = true) :
    MeetsLimit s (closeFrame f e s.withoutCommand).s (countedState f e s) := by
  obtain ⟨hparams, hout, -, -⟩ := h.limit_after hfirst
  obtain ⟨l, -, harb, -⟩ := countedState_eq f e s
  exact ⟨hparams, hout, by rw [harb]⟩

/-- A limit at or below the age of the LIVE channel expires it there, and raises OUTPUT_EXPIRED with the new SAFE mask. -/
theorem MeetsLimit.expires {t : State} {x : Sample} {age : Nat}
    (h : MeetsLimit s (closeFrame f e s.withoutCommand).s t) (hp : paramOf r.p0 = some (.holdLimit c))
    (ho : (closeFrame f e s.withoutCommand).s.outputs[c] = .live x age) (h0 : r.p1 ≠ 0) (hle : r.p1.toNat ≤ age) :
    (doSetParameter r t).1.outputs = (closeFrame f e s.withoutCommand).s.outputs.set c .safe
      ∧ (doSetParameter r t).1.notices = t.notices.raise s.cmd.params.noticeMask .none
          (.outputExpired (safeMask ((closeFrame f e s.withoutCommand).s.outputs.set c .safe))) := by
  rw [doSetParameter_expires (t := t) (x := x) (age := age) hp (by rw [h.outputs]; exact ho)
    (by rw [h.params]; exact closeFrame_age_below ho) h0 hle, ← h.outputs, ← h.params, ← h.item]
  exact ⟨rfl, rfl⟩

/-- A limit of 0, or above the age of the channel, leaves the channels and the notices. -/
theorem MeetsLimit.spares {t : State} (h : MeetsLimit s (closeFrame f e s.withoutCommand).s t)
    (hp : paramOf r.p0 = some (.holdLimit c))
    (hs : ∀ x age, (closeFrame f e s.withoutCommand).s.outputs[c] = .live x age → r.p1 = 0 ∨ age < r.p1.toNat) :
    (doSetParameter r t).1.outputs = (closeFrame f e s.withoutCommand).s.outputs
      ∧ (doSetParameter r t).1.notices = t.notices := by
  rw [doSetParameter_spares hp (by rw [h.outputs]; exact hs)]
  exact ⟨h.outputs, rfl⟩

/-- The frame end whose new limit expires channel `c`: OUTPUT_EXPIRED and the notice of the capture come in the order of
the frame end (assumption 16). -/
theorem SetsParameter.limit_expires (h : SetsParameter s f e r (.holdLimit c)) {x : Sample} {age : Nat}
    (ho : (closeFrame f e s.withoutCommand).s.outputs[c] = .live x age) (h0 : r.p1 ≠ 0) (hle : r.p1.toNat ≤ age) :
    (closeFrame f e s).s.outputs = (closeFrame f e s.withoutCommand).s.outputs.set c .safe
      ∧ (s.counters.gate = false →
        (e.snapshotFirst = true ∨ ¬Triggers s f → (closeFrame f e s).s.notices =
          (closeFrame f e s.withoutCommand).s.notices.raise s.cmd.params.noticeMask .none
            (.outputExpired (safeMask (closeFrame f e s).s.outputs)))
        ∧ (e.snapshotFirst = false → Triggers s f → (closeFrame f e s).s.notices = NoticeQueue.raise
          ((atCapture s f e).notices.raise s.cmd.params.noticeMask .none
            (.outputExpired (safeMask (closeFrame f e s).s.outputs)))
          s.cmd.params.noticeMask .none (captureNotice s f))) := by
  cases hfirst : e.snapshotFirst with
  | true =>
    obtain ⟨-, -, hout, hnotices⟩ := h.limit_after hfirst
    obtain ⟨hset, hraise⟩ := (h.meets_after hfirst).expires h.param ho h0 hle
    rw [hout, hset, hnotices, hraise]
    refine ⟨rfl, fun hgate => ⟨fun _ => ?_, fun hf => absurd hf (by decide)⟩⟩
    rw [h.counted_notices (by simp) (.inl hfirst) hgate]
  | false =>
    obtain ⟨hout, hnotices⟩ := h.limit_before hfirst
    obtain ⟨hset, hraise⟩ := h.meets_before.expires h.param ho h0 hle
    rw [hraise] at hnotices
    rw [hout, hset]
    refine ⟨rfl, fun hgate => ?_⟩
    obtain ⟨hraised, hstand⟩ := hnotices hgate
    refine ⟨fun ht => ?_, fun _ => hraised⟩
    have hnot : ¬Triggers s f := ht.resolve_left (by decide)
    rw [hstand hnot, (h.withoutCommand_notices (by simp) hgate).2 hnot]

/-- The frame end whose new limit expires nothing. -/
theorem SetsParameter.limit_spares (h : SetsParameter s f e r (.holdLimit c))
    (hs : ∀ x age, (closeFrame f e s.withoutCommand).s.outputs[c] = .live x age → r.p1 = 0 ∨ age < r.p1.toNat) :
    (closeFrame f e s).s.outputs = (closeFrame f e s.withoutCommand).s.outputs
      ∧ (s.counters.gate = false → (closeFrame f e s).s.notices = (closeFrame f e s.withoutCommand).s.notices) := by
  cases hfirst : e.snapshotFirst with
  | true =>
    obtain ⟨-, -, hout, hnotices⟩ := h.limit_after hfirst
    obtain ⟨hsame, hstand⟩ := (h.meets_after hfirst).spares h.param hs
    refine ⟨hout.trans hsame, fun hgate => ?_⟩
    rw [hnotices, hstand, h.counted_notices (by simp) (.inl hfirst) hgate]
  | false =>
    obtain ⟨hout, hnotices⟩ := h.limit_before hfirst
    obtain ⟨hsame, hstand⟩ := h.meets_before.spares h.param hs
    refine ⟨hout.trans hsame, fun hgate => ?_⟩
    obtain ⟨hraised, hquiet⟩ := hnotices hgate
    obtain ⟨hraised', hquiet'⟩ := h.withoutCommand_notices (by simp) hgate
    by_cases ht : Triggers s f
    · rw [hraised ht, hraised' ht, hstand]
    · rw [hquiet ht, hquiet' ht, hstand]

/-- The other channels stand in either case. -/
theorem SetsParameter.limit_others (h : SetsParameter s f e r (.holdLimit c)) {d : Channel} (hd : d ≠ c) :
    (closeFrame f e s).s.outputs[d] = (closeFrame f e s.withoutCommand).s.outputs[d] := by
  by_cases hs : ∀ x age, (closeFrame f e s.withoutCommand).s.outputs[c] = .live x age → r.p1 = 0 ∨ age < r.p1.toNat
  · rw [(h.limit_spares hs).1]
  · push Not at hs
    obtain ⟨x, age, ho, h0, hle⟩ := hs
    rw [(h.limit_expires ho h0 hle).1]
    exact Vector.getElem_set_ne c.isLt d.isLt (Fin.val_ne_of_ne hd.symm)

/-! ### A new notice mask (R130) -/

theorem beforeCommand_enabled (h : s.Enabled) (f : FrameInFlight) (e : FrameClose) :
    (Closing.beforeCommand f e s).s.Enabled := by
  obtain ⟨-, -, hb, -⟩ := endItems_split e
  refine Closing.meet_enabled ?_ hb
  unfold State.Enabled
  rw [Closing.begin_notices, Closing.begin_cmd]
  exact h

/-- A mask set before the capture removes its records where the works meet. -/
theorem SetsParameter.masks_notices (h : SetsParameter s f e r .noticeMask) (hfirst : e.snapshotFirst = false)
    (hs : s.Enabled) : (Closing.beforeCommand f e s).command.s.notices
      = (Closing.beforeCommand f e s).s.notices.maskOff (r.p1.extractLsb' 0 8) := by
  rw [h.masks hfirst]
  exact congrArg State.notices
    (doSetParameter_masks (t := ((Closing.beforeCommand f e s).sequenced (s.sequenceAfter r)).s) h.param
      (beforeCommand_enabled hs f e))

theorem SetsParameter.command_enabled (h : SetsParameter s f e r .noticeMask) (hs : s.Enabled) :
    (Closing.beforeCommand f e s).command.s.Enabled := by
  cases hfirst : e.snapshotFirst with
  | true =>
    rw [h.waits (by simp [hfirst])]
    exact beforeCommand_enabled hs f e
  | false =>
    have hparams := h.settled_masks hfirst
    rw [settled_params] at hparams
    unfold State.Enabled
    rw [h.masks_notices hfirst hs, hparams]
    exact NoticeQueue.enabled_maskOff ..

/-- The counted node still keeps only enabled records, so that the command ends with the new mask applied to them. -/
theorem SetsParameter.mask_notices (h : SetsParameter s f e r .noticeMask) (hs : s.Enabled) :
    (closeFrame f e s).s.notices = (countedState f e s).notices.maskOff (r.p1.extractLsb' 0 8) := by
  obtain ⟨after, ha, hw⟩ := worked_split f e s
  have hworked : (Closing.worked f e s).s.Enabled := by
    rw [hw]
    exact Closing.meet_enabled (h.command_enabled hs) ha
  have hcounted : (countedState f e s).Enabled := by
    rw [countedState, h.beforeCapture_stands (.inr rfl)]
    exact Closing.count_enabled (w := Closing.settled f e s) ⟨hworked.kinds⟩
  obtain ⟨x, hu⟩ := h.closeFrame_eq
  rw [hu, doSetParameter_masks h.param hcounted]

/-- The capture meets the node without a raising where there is no trigger. -/
theorem SetsParameter.mask_capture (h : SetsParameter s f e r .noticeMask) (hgate : s.counters.gate = false) :
    (Triggers s f → (countedState f e s).notices = (atCapture s f e).notices.raise
        (atCapture s f e).cmd.params.noticeMask .none (captureNotice s f))
      ∧ (¬Triggers s f → (countedState f e s).notices = (atCapture s f e).notices) := by
  have hparam : (Closing.settled f e s).s.cmd.params.snapOnSyncLoss = s.cmd.params.snapOnSyncLoss := by
    cases hfirst : e.snapshotFirst with
    | true => rw [(h.settled_waits (by simp [hfirst])).1]
    | false => rw [h.settled_masks hfirst]; rfl
  rw [countedState, h.beforeCapture_stands (.inr rfl)]
  exact (h.capturing hgate hparam).count_notices

/-- A mask set before the capture: the notice of the capture meets the new mask and the records that it left. -/
theorem SetsParameter.mask_before (h : SetsParameter s f e r .noticeMask) (hgate : s.counters.gate = false)
    (hfirst : e.snapshotFirst = false) (ht : Triggers s f) :
    (closeFrame f e s).s.notices
      = (atCapture s f e).notices.raise (r.p1.extractLsb' 0 8) .none (captureNotice s f) := by
  have hparams : (countedState f e s).cmd.params = s.cmd.params.put .noticeMask r.p1 := by
    rw [countedState_params, h.beforeCapture_stands (.inr rfl), h.settled_masks hfirst]
  have hmask : (atCapture s f e).cmd.params.noticeMask = r.p1.extractLsb' 0 8 :=
    congrArg Parameters.noticeMask (h.settled_masks hfirst)
  obtain ⟨x, hu⟩ := h.closeFrame_eq
  rw [doSetParameter_again h.param (by rw [hparams, Parameters.put_put])] at hu
  rw [hu, ← hmask]
  exact (h.mask_capture hgate).1 ht

/-- Where the frame end brings nothing else, the records that the new mask enables are left of those resent. -/
theorem SetsParameter.mask_calm (h : SetsParameter s f e r .noticeMask) (hs : s.Enabled) (hcalm : Calm s)
    (hn : NothingRaised s f) : (closeFrame f e s).s.notices.records = (Resent s.notices.records).filter
      fun x => (r.p1.extractLsb' 0 8).getLsbD (noticeIndex x.kind).val := by
  obtain ⟨hquiet, hmet⟩ := beforeCommand_calm e hcalm hn
  have hsame := (Closing.beforeCommand f e s).command_same
  have hcommand : (Closing.beforeCommand f e s).command.Unraised := by
    refine hquiet.of_same hsame ?_
    obtain ⟨p, n, hmeet⟩ := meetParameter_eq r (Closing.beforeCommand f e s).snapshotFirst
      ((Closing.beforeCommand f e s).sequenced (s.sequenceAfter r)).s
    rw [h.command_eq]
    show (meetParameter r (Closing.beforeCommand f e s).snapshotFirst _).arb.item = _
    rw [hmeet]
    rfl
  have hsettled : (atCapture s f e).notices.records = (Closing.beforeCommand f e s).command.s.notices.records := by
    show (Closing.worked f e s).s.notices.records = _
    rw [worked_calm_notices e hcommand]
  rw [h.mask_notices hs, (h.mask_capture hcalm.gate).2 (hcalm.not_triggers f)]
  show (atCapture s f e).notices.records.filter _ = _
  rw [hsettled]
  cases hfirst : e.snapshotFirst with
  | true =>
    rw [h.waits (by simp [hfirst])]
    show (Closing.beforeCommand f e s).s.notices.records.filter _ = _
    rw [hmet]
  | false =>
    rw [h.masks_notices hfirst hs, hmet]
    show ((Resent s.notices.records).filter _).filter _ = _
    rw [List.filter_filter]
    simp only [Bool.and_self]

/-! ### A refusal -/

/-- What does not fit R112 is refused, and changes no parameter and no channel (R113). -/
theorem setParameter_refused (h : Executes s f e r .setParameter) (hfit : ¬(r.count = 2 ∧ ParameterFits r.p0 r.p1)) :
    Answered (closeFrame f e s).s r .badParameter [] ∧ (closeFrame f e s).s.cmd.params = s.cmd.params
      ∧ (closeFrame f e s).s.outputs = (closeFrame f e s.withoutCommand).s.outputs := by
  have hc : checkSetParameter r = some (.badParameter, []) :=
    (checkSetParameter_cases r).resolve_left fun hc => hfit (parameterFits_of_check hc)
  obtain ⟨hanswer, hsame⟩ := closeFrame_refused_unicast h.toAtGoodEnd h.held h.unicast h.unseen
    (.inr ⟨.setParameter, h.name, hc⟩)
  obtain ⟨-, hout⟩ := hsame.channels
  obtain ⟨-, hparams, -⟩ := hsame.command
  obtain ⟨hstand, -⟩ := s.withoutCommand_noCommand.closeFrame_channels (f := f) (e := e)
  exact ⟨hanswer, hparams.trans hstand, hout⟩

end

/-- Settles O41: the value is stored and answered for every parameter; a new notice mask and a new hold limit act before
the capture or after it. -/
theorem setParameterStoresAndActs : Obligations.SetParameterStoresAndActs := by
  unfold Obligations.SetParameterStoresAndActs
  intro s f e r h
  have sets : ∀ p, r.count = 2 → paramOf r.p0 = some p → p.accepts r.p1 = true → SetsParameter s f e r p :=
    fun p h2 hp ha => ⟨h, hp, checkSetParameter_of_accepts h2 hp ha⟩
  have stores : ∀ p, r.count = 2 → paramOf r.p0 = some p → p.accepts r.p1 = true → p.isHoldLimit = false →
      Answered (closeFrame f e s).s r .ok [(s.cmd.params.put p r.p1).word p]
        ∧ (closeFrame f e s).s.outputs = (closeFrame f e s.withoutCommand).s.outputs
        ∧ (closeFrame f e s).s.cmd.params = s.cmd.params.put p r.p1 := fun p h2 hp ha hh => by
    have hset := sets p h2 hp ha
    obtain ⟨hanswer, hparams⟩ := hset.stores
    exact ⟨hanswer, hset.outputs_stand hh, hparams⟩
  refine ⟨_, _, Carries.exec_eq (.inl h), exec_frameEnd_eq e h.toAtEnd.withoutCommand, ?_, ?_, ?_, ?_, ?_, ?_, ?_,
    setParameter_refused h⟩
  case refine_1 =>
    intro h2 hid hle
    have hdone := stores .courtesyGap h2 (by rw [hid]; rfl) (by simpa [ParamId.accepts] using hle) rfl
    rwa [show (s.cmd.params.put .courtesyGap r.p1).word .courtesyGap = r.p1 from numWord_toNat _] at hdone
  case refine_2 =>
    intro h2 hid hge hle
    have hdone := stores .flywheelLimit h2 (by rw [hid]; rfl) (by simp [ParamId.accepts, hge, hle]) rfl
    rwa [show (s.cmd.params.put .flywheelLimit r.p1).word .flywheelLimit = r.p1 from numWord_toNat _] at hdone
  case refine_3 =>
    intro h2 hid hge hle
    have hdone := stores .noticeResend h2 (by rw [hid]; rfl) (by simp [ParamId.accepts, hge, hle]) rfl
    rwa [show (s.cmd.params.put .noticeResend r.p1).word .noticeResend = r.p1 from numWord_toNat _] at hdone
  case refine_4 =>
    intro h2 hid hle
    have hp : paramOf r.p0 = some .noticeMask := by rw [hid]; rfl
    have ha : ParamId.noticeMask.accepts r.p1 = true := by simpa [ParamId.accepts] using hle
    have hset := sets .noticeMask h2 hp ha
    obtain ⟨hanswer, hout, hparams⟩ := stores .noticeMask h2 hp ha rfl
    rw [word_put_noticeMask _ hle] at hanswer
    simp only [← mask_bit]
    refine ⟨hanswer, hout, hparams, fun hs x hx => ?_, fun hs hcalm hn => hset.mask_calm hs.toEnabled hcalm hn,
      fun hs hgate => ⟨fun hfirst => ?_, hset.mask_before hgate⟩⟩
    · rw [hset.mask_notices hs.toEnabled] at hx
      exact (NoticeQueue.enabled_maskOff _ _).kinds x hx
    · rw [hset.mask_notices hs.toEnabled, hset.counted_notices (by simp [hfirst]) (.inl hfirst) hgate]
      rfl
  case refine_5 =>
    intro h2 hid hle
    have hdone := stores .snapOnSyncLoss h2 (by rw [hid]; rfl) (by simpa [ParamId.accepts] using hle) rfl
    rwa [word_put_snapOnSyncLoss _ hle] at hdone
  case refine_6 =>
    intro c h2 hid hle
    have hset := sets (.holdLimit c) h2 (paramOf_holdLimit _ _ hid) (by simpa [ParamId.accepts] using hle)
    obtain ⟨hanswer, hparams⟩ := hset.stores
    rw [word_put_holdLimit] at hanswer
    refine ⟨hanswer, hparams, fun d hd => hset.limit_others hd, fun x age ho h0 hage => ?_, fun hs => ?_⟩
    · obtain ⟨hout, hnotices⟩ := hset.limit_expires ho h0 hage
      refine ⟨by rw [hout]; exact Vector.getElem_set_self c.isLt, fun hgate => ?_⟩
      obtain ⟨hfirst, hlast⟩ := hnotices hgate
      exact ⟨_, fun d => safeMask_getLsbD, hfirst, (hset.withoutCommand_notices (by simp) hgate).1, hlast⟩
    · obtain ⟨hout, hnotices⟩ := hset.limit_spares hs
      exact ⟨by rw [hout], hnotices⟩
  case refine_7 =>
    intro c h2 hid
    have hdone := stores (.safeValue c) h2 (paramOf_safeValue _ _ hid) rfl rfl
    rwa [word_put_safeValue] at hdone

end Sys2Proof.Machine
end

section
/-! PROOFS. The row of a command (O31): it is the GOOD frame end that takes the command, and a command that is not taken
leaves no trace in its frame end (R93, R96). -/

namespace Sys2Proof.Machine

/-! ### The rows of the commands (R96; assumptions 2, 3) -/

/-- What the row of command `n` in the form of `r` asks of the request that is taken: GATE and TAKE SNAPSHOT have a row
for each form. -/
def rowForm (n : CommandName) (r : Request) : Request → Bool :=
  match n with
  | .gate => if r.p0 = 1 then fun q => q.p0 == 1 else fun q => q.p0 != 1
  | .takeSnapshot => if r.count = 0 then fun q => q.count == 0 else fun q => q.count != 0
  | _ => fun _ => true

theorem rowForm_self (n : CommandName) (r : Request) : rowForm n r r = true := by
  cases n
  case gate =>
    unfold rowForm
    dsimp only
    split <;> simpa
  case takeSnapshot =>
    unfold rowForm
    dsimp only
    split <;> simpa
  all_goals rfl

theorem exec_commandRow (n : CommandName) (r : Request) (e : FrameClose) (s : State) :
    exec (commandRow n r e) s = happens s (commandAt n (rowForm n r) e s) := by
  cases n
  case gate =>
    unfold commandRow rowForm
    dsimp only
    split <;> rfl
  case takeSnapshot =>
    unfold commandRow rowForm
    dsimp only
    split <;> rfl
  all_goals rfl

section
variable {s : State} {f : FrameInFlight} {e : FrameClose} {r : Request} {n : CommandName}

/-- The row of the command that a GOOD frame end takes is that frame end. -/
theorem exec_commandRow_taken (h : AtGoodEnd s f e) (hr : s.cmd.inFlight = some r) (hc : r.cls ≠ .none)
    (hn : r.name = some n) : exec (commandRow n r e) s = .next (closeFrame f e s).s := by
  have htaken : takenRequest s (closeFrame f e s).outcome = some r := by
    rw [closeFrame_outcome]
    exact takenRequest_eq_some.2 ⟨hr, outcome_good_iff.2 ⟨h.forwarded, h.passes⟩, hc⟩
  have htakes : takesCommand n (rowForm n r) s (closeFrame f e s) = true := by
    simp [takesCommand, htaken, hn, rowForm_self]
  rw [exec_commandRow, happens_up h.up, commandAt, atFrameEnd_eq h.flight h.last, if_pos htakes]

/-- The row of a command that the frame end does not take does not come about. -/
theorem exec_commandRow_untaken (h : AtEnd s f)
    (hn : ∀ q, takenRequest s (f.outcome e.check) = some q → q.name ≠ some n) :
    exec (commandRow n r e) s = .next s := by
  have hnot : takesCommand n (rowForm n r) s (closeFrame f e s) = false := by
    unfold takesCommand
    rw [closeFrame_outcome]
    split
    · next q hq => simp [hn q hq]
    · rfl
  rw [exec_commandRow, happens_up h.up, commandAt, atFrameEnd_eq h.flight h.last, if_neg (by simp [hnot])]

/-! ### A command that is dropped (R93, R96) -/

/-- A command whose work is none leaves no trace: its frame end is the one without it. -/
theorem closeFrame_dropped (h : (Closing.beforeCommand f e s).command = Closing.beforeCommand f e s) :
    closeFrame f e s.withoutCommand = closeFrame f e s := by
  obtain ⟨w, -, hs, hq⟩ := settled_of_marked (h.trans (Closing.marked_marks _).symm)
  rw [Closing.beforeCommand_marks] at hs
  have hsettled : Closing.settled f e s.withoutCommand = Closing.settled f e s := hq.trans hs.symm
  unfold closeFrame
  rw [hsettled]

/-- Without a GOOD end, or without a command for this node, nothing is taken. -/
theorem takenRequest_none (h : ¬EndsGood f e.check ∨ NoCommand s) : takenRequest s (f.outcome e.check) = none := by
  rw [Option.eq_none_iff_forall_ne_some]
  intro q hq
  obtain ⟨hheld, hgood, hcls⟩ := takenRequest_eq_some.1 hq
  exact h.elim (fun hbad => hbad (outcome_good_iff.1 hgood)) fun hno => hcls (hno q hheld)

/-- The frame end takes the command that the node holds when the frame ends. -/
theorem takenRequest_met (s : State) (f : FrameInFlight) (e : FrameClose) :
    takenRequest (Closing.beforeCommand f e s).s (Closing.beforeCommand f e s).outcome
      = takenRequest s (f.outcome e.check) := by
  have hheld : (Closing.beforeCommand f e s).s.cmd.inFlight = s.cmd.inFlight :=
    congrArg CommandMarks.held (Closing.beforeCommand_marks f e s)
  rw [Closing.beforeCommand_outcome, takenRequest, hheld]
  rfl

theorem command_dropped (h : ¬EndsGood f e.check ∨ NoCommand s) :
    (Closing.beforeCommand f e s).command = Closing.beforeCommand f e s := by
  unfold Closing.command
  rw [takenRequest_met, takenRequest_none h]

end

/-- Settles O31: the row of the command taken is the frame end, and a dropped command's frame end is the one without
it. -/
theorem commandsAreTakenAtGoodEnds : Obligations.CommandsAreTakenAtGoodEnds := by
  unfold Obligations.CommandsAreTakenAtGoodEnds
  intro s f e h
  refine ⟨fun r n ⟨hforwarded, hpasses⟩ hr hc hn => ⟨?_, fun m r' hm => ?_⟩, fun hnot => ⟨?_, fun m r' => ?_⟩⟩
  · rw [exec_commandRow_taken ⟨h, hforwarded, hpasses⟩ hr hc hn, exec_frameEnd_eq e h]
  · refine exec_commandRow_untaken h fun q hq => ?_
    obtain ⟨hheld, -⟩ := takenRequest_eq_some.1 hq
    cases hr.symm.trans hheld
    rw [hn]
    exact fun heq => hm (Option.some.inj heq).symm
  · rw [exec_frameEnd_eq e h, exec_frameEnd_eq e h.withoutCommand, closeFrame_dropped (command_dropped hnot)]
  · exact exec_commandRow_untaken h fun q hq => by simp [takenRequest_none hnot] at hq

end Sys2Proof.Machine
end

section
/-! SUPPORT. A command that the frame end executes for the node itself, and one that it does not execute: what either
makes of the response record, and the parameters and the capture that an accepted one leaves (R97, R101, R102). -/

namespace Sys2Proof.Machine

/-! ### An UNSENT record through the works (R101, R120) -/

/-- The works without the delivery leave the arbiter alone, and an UNSENT record too. -/
theorem Closing.meet_undelivered (w : Closing) {items : List EndItem} (hd : EndItem.delivery ∉ items) :
    (w.meet items).s.arb = w.s.arb
      ∧ ∀ a, w.s.cmd.response = .unsent a → (w.meet items).s.cmd.response = .unsent a := by
  unfold Closing.meet
  induction items generalizing w with
  | nil => exact ⟨rfl, fun a h => h⟩
  | cons i rest ih =>
    obtain ⟨hi, hrest⟩ := List.ne_and_not_mem_of_not_mem_cons hd
    obtain ⟨harb, hresp⟩ := w.item_undelivered hi.symm
    obtain ⟨harb', hresp'⟩ := ih (w.item i) hrest
    exact ⟨harb'.trans harb, fun a h => hresp' a (hresp a h)⟩

/-- The works without the command make an UNSENT record SENT where it was written and is delivered among them. -/
theorem Closing.meet_unsent {w : Closing} {items : List EndItem} {a : Answer} (hi : EndItem.command ∉ items)
    (hr : w.s.cmd.response = .unsent a) : (w.meet items).s.cmd.response =
      if w.s.arb.item = .response ∧ EndItem.delivery ∈ items ∧ w.outcome.delivers = true then .sent a
      else .unsent a := by
  by_cases hw : w.s.arb.item = .response
  · rw [Closing.meet_written hi hw hr]
    simp [hw]
  · obtain ⟨hmet, -⟩ := Closing.meet_unwritten hi hw
    rw [hmet, State.copiedRecord_unsent hr, hr, ite_self, if_neg fun h => hw h.1]

section
variable {s : State} {f : FrameInFlight} {e : FrameClose} {r : Request} {n : CommandName}

/-! ### A command that is not executed -/

/-- Where no command is executed the frame end leaves the record that its works make. -/
theorem closeFrame_unexecuted (h : (Closing.beforeCommand f e s).command.taking = .nothing) :
    (closeFrame f e s).s.cmd.response = (Closing.worked f e s).s.cmd.response := by
  obtain ⟨l, hcmd, -⟩ := countedState_eq f e s
  rw [closeFrame_eq_run, settled_taking, h]
  exact (congrArg CommandUnit.response hcmd : (countedState f e s).cmd.response = _)

theorem Closing.takeUnicast_unexecuted {w : Closing} (h : w.s.cmd.response.receive r.seq ≠ .execute) :
    (w.takeUnicast r).taking = w.taking := by
  unfold Closing.takeUnicast
  split
  · rfl
  · rfl
  · rfl
  · next hx => exact absurd hx h

/-! ### A command that is executed for the node itself -/

/-- A unicast is executed where the record that it meets receives it so (R97). -/
theorem command_execute (h : AtGoodEnd s f e) (hr : s.cmd.inFlight = some r) (hc : r.cls = .unicast)
    (hx : (Closing.beforeCommand f e s).s.cmd.response.receive r.seq = .execute) :
    (Closing.beforeCommand f e s).command = (Closing.beforeCommand f e s).execute r := by
  rw [(Closing.command_taken (takenRequest_eq h hr (by simp [hc]))).1 hc, Closing.takeUnicast, hx]

theorem Executes.command_execute (h : Executes s f e r n) :
    (Closing.beforeCommand f e s).command = (Closing.beforeCommand f e s).execute r := by
  refine Machine.command_execute h.toAtGoodEnd h.held h.unicast ?_
  rcases h.unseen with hr | ⟨a, hr, hne⟩
  · rw [Closing.beforeCommand_response (.inl hr), hr]
    rfl
  · rw [Closing.beforeCommand_response (.inr ⟨a, hr⟩), hr]
    simp [ResponseRecord.receive, hne.symm]

theorem okAnswer_sequence (n : CommandName) (r : Request) (data : List Word) :
    (okAnswer n r data).sequence = some r.seq := by
  cases n <;> rfl

/-- The record takes the answer of a command executed for the node itself, with its sequence (R97, R102). -/
theorem closeFrame_execute_sequence
    (h : (Closing.beforeCommand f e s).command = (Closing.beforeCommand f e s).execute r)
    (hown : r.cls = .unicast ∨ r.cls = .firstUnaddressed) :
    (closeFrame f e s).s.cmd.response.sequence = some r.seq := by
  rw [closeFrame_eq_run, settled_taking, h]
  rcases (Closing.beforeCommand f e s).execute_cases r with ⟨m, -, -, hx⟩ | ⟨t, -, hx⟩ <;> rw [hx]
  · exact (congrArg ResponseRecord.sequence (State.answer_response _ hown _)).trans (okAnswer_sequence m r _)
  · exact congrArg ResponseRecord.sequence (State.answer_response _ hown _)

theorem execute_beforeCommand (hn : r.name = some n) (hc : checkCommand n r (metByCommand s f e) = none) :
    (Closing.beforeCommand f e s).execute r = (Closing.beforeCommand f e s).acceptedAs r n :=
  Closing.execute_accepted hn hc

/-- A command executed that passes its checks acts on the counted node, and is answered (R102). -/
theorem closeFrame_execute_accepted
    (h : (Closing.beforeCommand f e s).command = (Closing.beforeCommand f e s).execute r) (hn : r.name = some n)
    (hc : checkCommand n r (metByCommand s f e) = none) :
    ∃ k, (closeFrame f e s).s = (doCommand n r k (countedState f e s)).1.answer r
      (okAnswer n r (doCommand n r k (countedState f e s)).2) := by
  refine ⟨(Closing.settled f e s).capture, ?_⟩
  rw [closeFrame_eq_run, settled_taking, h, execute_beforeCommand hn hc]
  rfl

/-! ### The parameters and the capture (R113; assumption 16) -/

/-- No command but SET PARAMETER changes a parameter where it meets the other works. -/
theorem meetCommand_params (hn : n ≠ .setParameter) (r : Request) (b : Bool) (s : State) :
    (meetCommand n r b s).cmd.params = s.cmd.params := by
  cases n
  case setParameter => exact absurd rfl hn
  case nodeReset =>
    unfold meetCommand
    dsimp only
    split <;> rfl
  all_goals rfl

/-- No command but SET PARAMETER acts between the works that meet and the capture. -/
theorem Closing.beforeCapture_stands {w : Closing} (ht : w.taking = .accepted r n) (hn : n ≠ .setParameter) :
    w.beforeCapture = w := by
  have hstate : w.taking.beforeCapture w.s = w.s := by
    unfold Taking.beforeCapture
    split
    · next hset =>
      cases ht.symm.trans hset
      exact absurd rfl hn
    · rfl
  rw [Closing.beforeCapture, hstate, ite_self]

theorem Executes.taking (h : Executes s f e r n) (hc : checkCommand n r (metByCommand s f e) = none) :
    (Closing.settled f e s).taking = .accepted r n := by
  rw [settled_taking, h.command_execute, execute_beforeCommand h.name hc]
  rfl

/-- So an accepted command other than SET PARAMETER finds the parameters as they stood. -/
theorem Executes.counted_params (h : Executes s f e r n) (hc : checkCommand n r (metByCommand s f e) = none)
    (hn : n ≠ .setParameter) : (countedState f e s).cmd.params = s.cmd.params := by
  rw [countedState_params, Closing.beforeCapture_stands (h.taking hc) hn, settled_params, h.command_execute,
    execute_beforeCommand h.name hc]
  exact (meetCommand_params hn r _ _).trans (beforeCommand_params f e s)

end

end Sys2Proof.Machine
end

section
/-! PROOFS. The delivery of a response that meets a unicast (O33), in either order (R101). -/

namespace Sys2Proof.Machine

section
variable {s : State} {f : FrameInFlight} {e : FrameClose} {r : Request} {a : Answer}

/-- Delivery first: the record is met SENT, so a new sequence is executed. -/
theorem deliveredFirst_executes (h : AtGoodEnd s f e) (hr : s.cmd.inFlight = some r) (hc : r.cls = .unicast)
    (ha : s.cmd.response = .unsent a) (hb : SentBefore s e) (hne : r.seq ≠ a.seq) :
    (closeFrame f e s).s.cmd.response.sequence = some r.seq := by
  obtain ⟨hmet, -⟩ := beforeCommand_unsent (f := f) (e := e) ⟨h.forwarded, h.passes⟩ ha
  have hsent := hmet hb
  refine closeFrame_execute_sequence (command_execute h hr hc ?_) (.inl hc)
  rw [hsent]
  simp [ResponseRecord.receive, hne]

/-- Delivery first: the recorded sequence offers the record again, and no delivery is left to reach it. -/
theorem deliveredFirst_reopens (h : AtGoodEnd s f e) (hr : s.cmd.inFlight = some r) (hc : r.cls = .unicast)
    (ha : s.cmd.response = .unsent a) (hb : SentBefore s e) (heq : r.seq = a.seq) :
    (closeFrame f e s).s.cmd.response = .unsent a := by
  obtain ⟨hmet, -⟩ := beforeCommand_unsent (f := f) (e := e) ⟨h.forwarded, h.passes⟩ ha
  have hsent := hmet hb
  have hcommand : (Closing.beforeCommand f e s).command = { Closing.beforeCommand f e s with
      s := (Closing.beforeCommand f e s).s.reopenResponse.countCommand false false false true } := by
    rw [(Closing.command_taken (takenRequest_eq h hr (by simp [hc]))).1 hc, Closing.takeUnicast, hsent]
    simp [ResponseRecord.receive, heq]
  have hidle : (Closing.beforeCommand f e s).command.taking = .nothing := by
    rw [hcommand]
    exact congrArg CommandMarks.taking (Closing.beforeCommand_marks f e s)
  have hunsent : (Closing.beforeCommand f e s).command.s.cmd.response = .unsent a := by
    rw [hcommand]
    exact congrArg ResponseRecord.reopen hsent
  obtain ⟨after, he, -, hafter⟩ := endItems_split e
  have hgone : EndItem.delivery ∉ after := by
    obtain ⟨-, hfirst⟩ := hb
    have hn := endItems_nodup e
    rw [he, List.nodup_append] at hn
    obtain ⟨-, -, hdisjoint⟩ := hn
    exact fun hd => hdisjoint _ ((precedes_command_iff e _).1 hfirst) _ (List.mem_cons_of_mem _ hd) rfl
  rw [closeFrame_unexecuted hidle, worked_of_endItems he, Closing.meet_unsent hafter hunsent, if_neg]
  exact fun ⟨_, hd, _⟩ => hgone hd

/-- Command first: it meets the UNSENT record and is not executed, and the delivery then makes the record SENT. -/
theorem commandFirst_sends (h : AtGoodEnd s f e) (hr : s.cmd.inFlight = some r) (hc : r.cls = .unicast)
    (hi : s.arb.item = .response) (ha : s.cmd.response = .unsent a) (hb : Precedes e .command .delivery) :
    (closeFrame f e s).s.cmd.response = .sent a := by
  have hlater := not_precedes_of_command hb
  obtain ⟨harb, hunsent⟩ := (Closing.begin f e s).meet_undelivered hlater
  have hmet : (Closing.beforeCommand f e s).s.cmd.response = .unsent a := hunsent a (by simpa using ha)
  have hitem : (Closing.beforeCommand f e s).s.arb.item = .response :=
    (congrArg Arbiter.item harb).trans (by simpa using hi)
  have hidle : (Closing.beforeCommand f e s).command.taking = .nothing := by
    rw [(Closing.command_taken (takenRequest_eq h hr (by simp [hc]))).1 hc, Closing.takeUnicast_unexecuted]
    · exact congrArg CommandMarks.taking (Closing.beforeCommand_marks f e s)
    · rcases ResponseRecord.Open.receive (.inl ⟨a, hmet⟩) r.seq with hx | hx <;> simp [hx]
  obtain ⟨harb', hunsent'⟩ := (Closing.beforeCommand f e s).command_unsent
  obtain ⟨-, hout, -⟩ := (Closing.beforeCommand f e s).command_same.closing
  have hdelivers : (Closing.beforeCommand f e s).command.outcome.delivers = true := by
    rw [hout, Closing.beforeCommand_outcome, outcome_delivers_iff]
    exact .inr h.passes
  obtain ⟨after, he, -, hafter⟩ := endItems_split e
  have hd : EndItem.delivery ∈ after := by
    have hmem := mem_endItems e .delivery
    rw [he] at hmem
    simpa [hlater] using hmem
  rw [closeFrame_unexecuted hidle, worked_of_endItems he, Closing.meet_unsent hafter (hunsent' a hmet), if_pos]
  exact ⟨(congrArg Arbiter.item harb').trans hitem, hd, hdelivers⟩

end

/-- Settles O33: by which of the two comes first, the command meets the record SENT or UNSENT. -/
theorem deliveryMeetsTheCommand : Obligations.DeliveryMeetsTheCommand := by
  unfold Obligations.DeliveryMeetsTheCommand
  intro s f e r a h hr hc hi ha
  exact ⟨_, exec_frameEnd_eq e h.toAtEnd, fun hb => deliveredFirst_executes h hr hc ha ⟨hi, hb⟩,
    fun hb => deliveredFirst_reopens h hr hc ha ⟨hi, hb⟩, commandFirst_sends h hr hc hi ha⟩

end Sys2Proof.Machine
end

section
/-! PROOFS. IDENTIFY (O37), ASSIGN ADDRESS as a unicast and as a claimed command (O38), and GET PARAMETER (O42). -/

namespace Sys2Proof.Machine

section
variable {s : State} {f : FrameInFlight} {e : FrameClose} {r : Request} {p : ParamId}

/-! ### ASSIGN ADDRESS (R106, R107) -/

/-- ASSIGN ADDRESS draws no refusal but BAD_PARAMETER, which it draws where R106 does not let it through. -/
theorem checkAssignAddress_refused (h : ¬ClaimFits r) : checkAssignAddress r = some (.badParameter, []) := by
  have hcases : checkAssignAddress r = none ∨ checkAssignAddress r = some (.badParameter, []) := by
    unfold checkAssignAddress require
    split
    · exact ite_eq_or_eq ..
    · exact .inr rfl
  exact hcases.resolve_left fun hc => h (checkAssignAddress_eq_none.1 hc)

/-- The frame ends GOOD and carries a claimed ASSIGN ADDRESS, at a node without an address and with an EMPTY record. -/
structure Claims (s : State) (f : FrameInFlight) (e : FrameClose) (r : Request) : Prop extends AtGoodEnd s f e where
  held : s.cmd.inFlight = some r
  name : r.name = some .assignAddress
  claimed : r.cls = .firstUnaddressed
  unaddressed : s.cmd.address = 0
  unseen : s.cmd.response = .empty

theorem Claims.command_eq (h : Claims s f e r) :
    (Closing.beforeCommand f e s).command = (Closing.beforeCommand f e s).takeClaimed r := by
  unfold Closing.command
  rw [takenRequest_eq h.toAtGoodEnd h.held (by simp [h.claimed])]
  simp only [h.claimed]

theorem Claims.receive_eq (h : Claims s f e r) :
    (Closing.beforeCommand f e s).s.cmd.response.receive r.seq = .execute := by
  rw [Closing.beforeCommand_response (.inl h.unseen), h.unseen]
  rfl

/-- A claimed command that fits is executed as a unicast is (R107). -/
theorem Claims.command_execute (h : Claims s f e r) (hfit : ClaimFits r) :
    (Closing.beforeCommand f e s).command = (Closing.beforeCommand f e s).execute r := by
  rw [h.command_eq, Closing.takeClaimed, h.receive_eq, checkAssignAddress_eq_none.2 hfit]
  dsimp only
  rw [Closing.takeUnicast, h.receive_eq]

/-- One that does not fit is counted as refused, and leaves no other mark (R104, R107). -/
theorem Claims.command_refused (h : Claims s f e r) (hfit : ¬ClaimFits r) : (Closing.beforeCommand f e s).command
    = (Closing.beforeCommand f e s).marked (Closing.beforeCommand f e s).marks.ignored := by
  rw [h.command_eq, Closing.takeClaimed, h.receive_eq, checkAssignAddress_refused hfit]
  rfl

/-- Without the command the address stands. -/
theorem closeFrame_withoutCommand_address (f : FrameInFlight) (e : FrameClose) (s : State) :
    (closeFrame f e s.withoutCommand).s.cmd.address = s.cmd.address :=
  closeFrame_address (s := s.withoutCommand) (fun q hq => by cases hq) f e

/-- A claimed command that does not fit leaves the address and the EMPTY record (R107). -/
theorem Claims.refused_result (h : Claims s f e r) (hfit : ¬ClaimFits r) :
    (closeFrame f e s).s.cmd.address = s.cmd.address ∧ (closeFrame f e s).s.cmd.response = .empty := by
  have hcommand := h.command_refused hfit
  have hidle : (Closing.beforeCommand f e s).marks.ignored.taking = .nothing :=
    congrArg CommandMarks.taking (Closing.beforeCommand_marks f e s)
  have hmet : (Closing.beforeCommand f e s).command.s.cmd.response = .empty := by
    rw [hcommand]
    exact (Closing.beforeCommand_response (.inl h.unseen)).trans h.unseen
  obtain ⟨hsame, -⟩ := closeFrame_of_marked hcommand (hidle ▸ Taking.idle_nothing)
  obtain ⟨haddress, -⟩ := hsame.command
  obtain ⟨after, hafter, hw⟩ := worked_split f e s
  refine ⟨haddress.trans (closeFrame_withoutCommand_address f e s), ?_⟩
  rw [closeFrame_unexecuted (by rw [hcommand]; exact hidle), hw, Closing.meet_response hafter (.inl hmet), hmet]

/-- An ASSIGN ADDRESS that is executed sets the address, and answers with the identity record (R106). -/
theorem assignAddress_sets (h : (Closing.beforeCommand f e s).command = (Closing.beforeCommand f e s).execute r)
    (hn : r.name = some .assignAddress) (hown : r.cls = .unicast ∨ r.cls = .firstUnaddressed) (hfit : ClaimFits r) :
    (closeFrame f e s).s.cmd.address.toNat = r.p0.toNat ∧ Answered (closeFrame f e s).s r .ok identityWords := by
  obtain ⟨k, hu⟩ := closeFrame_execute_accepted h hn (checkAssignAddress_eq_none.2 hfit)
  obtain ⟨-, -, hmax⟩ := hfit
  rw [hu]
  refine ⟨?_, State.answer_response _ hown _⟩
  rw [State.answer_address]
  show (r.p0.extractLsb' 0 6).toNat = r.p0.toNat
  rw [BitVec.extractLsb'_toNat, Nat.shiftRight_zero, Nat.mod_eq_of_lt (by omega)]

/-- A unicast ASSIGN ADDRESS that does not fit is refused, and the address stands (R57, R106). -/
theorem assignAddress_refused (h : Executes s f e r .assignAddress) (hfit : ¬ClaimFits r) :
    (closeFrame f e s).s.cmd.address = s.cmd.address ∧ Answered (closeFrame f e s).s r .badParameter [] := by
  obtain ⟨hanswer, hsame⟩ := closeFrame_refused_unicast h.toAtGoodEnd h.held h.unicast h.unseen
    (.inr ⟨.assignAddress, h.name, checkAssignAddress_refused hfit⟩)
  obtain ⟨haddress, -⟩ := hsame.command
  exact ⟨haddress.trans (closeFrame_withoutCommand_address f e s), hanswer⟩

/-! ### GET PARAMETER (R112, R114) -/

/-- The ids beside those of the parameter table name no parameter. -/
theorem paramOf_eq_none {w : Word} (h : w = 5 ∨ w = 6 ∨ w = 7 ∨ 24 ≤ w.toNat) : paramOf w = none := by
  rcases h with rfl | rfl | rfl | h
  · rfl
  · rfl
  · rfl
  · have hne : ∀ v : Word, v.toNat < 24 → ¬(w == v) = true := fun v hv heq => by
      rw [beq_iff_eq.1 heq] at h
      exact absurd h (Nat.not_le.2 hv)
    unfold paramOf
    rw [if_neg (hne 0 (by decide)), if_neg (hne 1 (by decide)), if_neg (hne 2 (by decide)), if_neg (hne 3 (by decide)),
      if_neg (hne 4 (by decide)), if_neg (by omega), dif_neg (by omega), dif_neg (by omega)]

/-- GET PARAMETER answers the value held (R114). -/
theorem getParameter_answers (h : Executes s f e r .getParameter) (h1 : r.count = 1) (hp : paramOf r.p0 = some p) :
    Answered (closeFrame f e s).s r .ok [s.cmd.params.word p] := by
  have hc : checkCommand .getParameter r (metByCommand s f e) = none := by
    simp [checkCommand, checkGetParameter, require, h1, hp]
  obtain ⟨k, -, hanswer⟩ := h.accepted_result hc
  refine hanswer.trans ?_
  show ResponseRecord.unsent { seq := r.seq, tag := r.tag, status := .ok
                               data := (doGetParameter r (countedState f e s)).2 } = _
  rw [doGetParameter, hp, ← h.counted_params hc (by decide)]

theorem getParameter_refused (h : Executes s f e r .getParameter) (hbad : r.count ≠ 1 ∨ paramOf r.p0 = none) :
    Answered (closeFrame f e s).s r .badParameter [] := by
  refine h.refused_answer ?_
  rcases hbad with h1 | hp
  · simp [checkCommand, checkGetParameter, require, h1]
  · simp [checkCommand, checkGetParameter, require, hp]

end

/-- The default of each hold limit is 40, and of each safe value 0 (R112). -/
theorem Parameters.default_word (c : Channel) : Parameters.default.word (.holdLimit c) = 40
    ∧ Parameters.default.word (.safeValue c) = 0 := by
  revert c
  decide

/-! ### The rows -/

/-- Settles O37: IDENTIFY makes one check, and answers with the identity record. -/
theorem identifyAnswersTheIdentityRecord : Obligations.IdentifyAnswersTheIdentityRecord := by
  unfold Obligations.IdentifyAnswersTheIdentityRecord
  intro s f e r h
  refine ⟨_, Carries.exec_eq (.inl h), fun h0 => ?_, fun h0 =>
    h.refused_answer (by simp [checkCommand, checkIdentify, require, h0])⟩
  obtain ⟨k, -, hanswer⟩ := h.accepted_result (by simp [checkCommand, checkIdentify, require, h0])
  exact hanswer

/-- Settles O38: a command that fits is executed in either class; another is refused, as a unicast with an answer. -/
theorem assignAddressSetsTheAddress : Obligations.AssignAddressSetsTheAddress := by
  unfold Obligations.AssignAddressSetsTheAddress
  rintro s f e r (h | ⟨hend, hheld, hname, hcls, haddress, hempty⟩)
  · refine ⟨_, Carries.exec_eq (.inl h), assignAddress_sets h.command_execute h.name (.inl h.unicast), fun hfit => ?_⟩
    obtain ⟨hstands, hanswer⟩ := assignAddress_refused h hfit
    exact ⟨hstands, fun _ => hanswer, fun hc => by simp [h.unicast] at hc⟩
  · have h : Claims s f e r := ⟨hend, hheld, hname, hcls, haddress, hempty⟩
    refine ⟨_, exec_commandRow_taken hend hheld (by simp [hcls]) hname, fun hfit =>
      assignAddress_sets (h.command_execute hfit) hname (.inr hcls) hfit, fun hfit => ?_⟩
    obtain ⟨hstands, hrecord⟩ := h.refused_result hfit
    exact ⟨hstands, fun hc => by simp [hcls] at hc, fun _ => hrecord⟩

/-- Settles O42: the answer is the word of the parameter that the id names, in the table as it stood. -/
theorem getParameterAnswersTheValueHeld : Obligations.GetParameterAnswersTheValueHeld := by
  unfold Obligations.GetParameterAnswersTheValueHeld
  intro s f e r h
  have named : ∀ (w : Word) (p : ParamId), paramOf w = some p → r.count = 1 → r.p0 = w →
      Answered (closeFrame f e s).s r .ok [s.cmd.params.word p] :=
    fun w p hp h1 hw => getParameter_answers h h1 (hw ▸ hp)
  have limit : ∀ c : Channel, r.count = 1 → r.p0.toNat = c.val + 8 →
      Answered (closeFrame f e s).s r .ok [s.cmd.params.word (.holdLimit c)] :=
    fun c h1 hid => getParameter_answers h h1 (paramOf_holdLimit _ c hid)
  have safe : ∀ c : Channel, r.count = 1 → r.p0.toNat = c.val + 16 →
      Answered (closeFrame f e s).s r .ok [s.cmd.params.word (.safeValue c)] :=
    fun c h1 hid => getParameter_answers h h1 (paramOf_safeValue _ c hid)
  refine ⟨_, Carries.exec_eq (.inl h), named 0 .courtesyGap rfl, named 1 .flywheelLimit rfl,
    named 2 .noticeResend rfl, named 3 .noticeMask rfl, fun h1 hid => ?_, limit, safe,
    fun hbad => getParameter_refused h (hbad.imp_right paramOf_eq_none), fun hdefault h1 => ?_⟩
  · have hanswer := named 4 .snapOnSyncLoss rfl h1 hid
    unfold Parameters.word at hanswer
    cases hv : s.cmd.params.snapOnSyncLoss <;> rw [hv] at hanswer <;> exact hanswer
  · rw [hdefault] at named limit safe
    refine ⟨named 0 _ rfl h1, named 1 _ rfl h1, named 2 _ rfl h1, named 3 _ rfl h1, named 4 _ rfl h1,
      fun hlow hhigh => ?_, fun hlow hhigh => ?_⟩
    · obtain ⟨hword, -⟩ := Parameters.default_word ⟨r.p0.toNat - 8, by omega⟩
      rw [← hword]
      exact limit _ h1 (by dsimp only; omega)
    · obtain ⟨-, hword⟩ := Parameters.default_word ⟨r.p0.toNat - 16, by omega⟩
      rw [← hword]
      exact safe _ h1 (by dsimp only; omega)

end Sys2Proof.Machine
end

section
/-! PROOFS. Broadcasts (O34): they pass their own sequence record, and the works of the frame end make of the response
record what they make of it without the broadcast (R98). -/

namespace Sys2Proof.Machine

/-! ### The record beside a command (R65, R120) -/

/-- The works without the command make the same of a record that is not PENDING, whatever else the frame ends hold. -/
theorem Closing.meet_record_congr {w v : Closing} {items : List EndItem} (hi : EndItem.command ∉ items)
    (hr : w.s.cmd.response = v.s.cmd.response) (hitem : w.s.arb.item = v.s.arb.item) (ho : w.outcome = v.outcome)
    (hp : ∀ q t, v.s.cmd.response ≠ .pending q t) :
    (w.meet items).s.cmd.response = (v.meet items).s.cmd.response := by
  have settled : v.s.cmd.response.Settled → (w.meet items).s.cmd.response = (v.meet items).s.cmd.response :=
    fun hs => by rw [Closing.meet_response hi (hr ▸ hs), Closing.meet_response hi hs, hr]
  cases hv : v.s.cmd.response with
  | empty => exact settled (.inl hv)
  | sent a => exact settled (.inr ⟨a, hv⟩)
  | pending q t => exact absurd hv (hp q t)
  | unsent a => rw [Closing.meet_unsent hi (hr.trans hv), Closing.meet_unsent hi hv, hitem, ho]

section
variable {s : State} {f : FrameInFlight} {e : FrameClose} {r : Request} {n : CommandName}

/-- The works before the command leave no record PENDING that was not. -/
theorem beforeCommand_not_pending (hg : EndsGood f e.check) (hp : ∀ q t, s.cmd.response ≠ .pending q t)
    (q : SequenceNumber) (t : Tag) : (Closing.beforeCommand f e s).s.cmd.response ≠ .pending q t := by
  cases hr : s.cmd.response with
  | empty => simp [Closing.beforeCommand_response (.inl hr), hr]
  | sent a => simp [Closing.beforeCommand_response (.inr ⟨a, hr⟩), hr]
  | pending q t => exact absurd hr (hp q t)
  | unsent a =>
    obtain ⟨hsent, hunsent⟩ := beforeCommand_unsent (e := e) hg hr
    by_cases hb : SentBefore s e
    · simp [hsent hb]
    · simp [hunsent hb]

/-! ### A broadcast that is accepted -/

/-- No command's execution reaches the response record but by its answer (R102). -/
theorem doCommand_response (n : CommandName) (r : Request) (k : Capture) (t : State) :
    (doCommand n r k t).1.cmd.response = t.cmd.response := by
  have hr := doCommand_reaches n r k t
  generalize (doCommand n r k t).1 = u at hr
  cases hr with
  | reads _ _ | address _ | parameter _ _ _ | map _ _ _ | counters _ _ _ | snaps _ _ _ | reset => rfl

/-- Of the commands that meet the other works only three act there (R66, R129, R130). -/
theorem meetCommand_stands (hn : n ∉ [.acknowledgeNotice, .nodeReset, .setParameter]) (r : Request) (b : Bool)
    (t : State) : meetCommand n r b t = t := by
  cases n
  case acknowledgeNotice | nodeReset | setParameter => exact absurd hn (by decide)
  all_goals rfl

/-- A command that does not act where the works meet leaves its marks alone there, a broadcast's sequence among them. -/
theorem Closing.acceptedAs_marked (w : Closing) (q : Option SequenceNumber) (r : Request)
    (hn : n ∉ [.acknowledgeNotice, .nodeReset, .setParameter]) : (w.sequenced q).acceptedAs r n = w.marked
      { held := w.s.cmd.inFlight, amounts := { taken := true, refused := false, overrun := false, resent := false }
        broadcastSeq := q, taking := .accepted r n } := by
  unfold Closing.acceptedAs
  rw [meetCommand_stands hn]
  rfl

/-- An abandoned copy is answered in a PENDING record alone (R66). -/
theorem State.abandonCopy_response {t : State} (hp : ∀ q x, t.cmd.response ≠ .pending q x) :
    t.abandonCopy.cmd.response = t.cmd.response := by
  unfold State.abandonCopy
  cases hr : t.cmd.response with
  | pending q x => exact absurd hr (hp q x)
  | empty | unsent _ | sent _ => rfl

/-- The works after an accepted broadcast make of the record what they make of it without the broadcast, but that a NODE
RESET reaches a PENDING one (R66, R98). -/
theorem HearsBroadcast.meet_record (h : HearsBroadcast s f e r n) (hb : BroadcastName (some n))
    (hp : n ≠ .nodeReset ∨ ∀ q t, s.cmd.response ≠ .pending q t) {after : List EndItem}
    (ha : EndItem.command ∉ after) :
    ((((Closing.beforeCommand f e s).sequenced (s.sequenceAfter r)).acceptedAs r n).meet after).s.cmd.response
      = ((Closing.beforeCommand f e s).meet after).s.cmd.response := by
  by_cases hn : n = .nodeReset
  · subst hn
    have hpending := beforeCommand_not_pending (f := f) (e := e) ⟨h.forwarded, h.passes⟩
      (hp.resolve_left fun hne => hne rfl)
    obtain ⟨hresp, -, harb, -⟩ := acceptedAs_nodeReset
      ((Closing.beforeCommand f e s).sequenced (s.sequenceAfter r)) r
    refine Closing.meet_record_congr ha (hresp.trans ?_) (congrArg Arbiter.item harb) rfl hpending
    show (if (Closing.beforeCommand f e s).s.map.copy.isSome then
      (Closing.beforeCommand f e s).s.abandonCopy.cmd.response else _) = (Closing.beforeCommand f e s).s.cmd.response
    rw [State.abandonCopy_response hpending]
    exact ite_self _
  · have hother : n ∉ [CommandName.acknowledgeNotice, .nodeReset, .setParameter] := by
      revert hb hn
      cases n <;> simp [BroadcastName]
    rw [Closing.acceptedAs_marked _ _ _ hother, Closing.meet_marked _ _ ha]
    rfl

/-- A frame end leaves without its command the record that the works beside the command make. -/
theorem closeFrame_withoutCommand_record {after : List EndItem}
    (he : endItems e = (endItems e).takeWhile (· != .command) ++ .command :: after) (ha : EndItem.command ∉ after) :
    (closeFrame f e s.withoutCommand).s.cmd.response
      = ((Closing.beforeCommand f e s).meet after).s.cmd.response := by
  have hnone : (Closing.beforeCommand f e s.withoutCommand).command
      = (Closing.beforeCommand f e s).marked s.quietMarks := by
    rw [beforeCommand_withoutCommand, Closing.command_none rfl]
  rw [closeFrame_unexecuted (by rw [hnone]; rfl), worked_of_endItems he, hnone, Closing.meet_marked _ _ ha]
  rfl

/-- A broadcast under a new sequence and an accepted code leaves the record as the frame end without it does, but that a
NODE RESET changes a PENDING one (R98). -/
theorem HearsBroadcast.record (h : HearsBroadcast s f e r n) (hb : BroadcastName (some n))
    (hp : n ≠ .nodeReset ∨ ∀ q t, s.cmd.response ≠ .pending q t) :
    (closeFrame f e s).s.cmd.response = (closeFrame f e s.withoutCommand).s.cmd.response := by
  cases hc : checkCommand n r (metByCommand s f e) with
  | some t =>
    have hseq : (Closing.beforeCommand f e s).s.cmd.broadcastSeq = s.cmd.broadcastSeq :=
      congrArg CommandMarks.broadcastSeq (Closing.beforeCommand_marks f e s)
    have hcommand := (Closing.command_taken (takenRequest_eq h.toAtGoodEnd h.held (by simp [h.broadcast]))).2 h.broadcast
    have hrefused := Closing.takeBroadcast_refused (w := Closing.beforeCommand f e s) (by rw [hseq]; exact h.unseen)
      (h.name ▸ hb) (.inr ⟨n, h.name, hc⟩)
    exact (closeFrame_marked_broadcast (hcommand.trans hrefused) (.inr ⟨_, rfl⟩) h.broadcast).1
  | none =>
    obtain ⟨k, hu⟩ := Carries.closeFrame_accepted (.inr h) (fun _ => hb) hc
    obtain ⟨l, hcmd, -⟩ := countedState_eq f e s
    obtain ⟨after, he, -, ha⟩ := endItems_split e
    calc (closeFrame f e s).s.cmd.response
        = (countedState f e s).cmd.response := by
          rw [hu, State.answer, h.broadcast]
          exact doCommand_response n r k _
      _ = (Closing.worked f e s).s.cmd.response := by rw [hcmd]
      _ = ((Closing.beforeCommand f e s).meet after).s.cmd.response := by
          rw [worked_of_endItems he, Carries.command_eq (.inr h) (fun _ => hb) hc, h.meet_record hb hp ha]
      _ = (closeFrame f e s.withoutCommand).s.cmd.response := (closeFrame_withoutCommand_record he ha).symm

/-- It enters its sequence (R98). -/
theorem HearsBroadcast.broadcastSeq (h : HearsBroadcast s f e r n) (hb : BroadcastName (some n)) :
    (closeFrame f e s).s.cmd.broadcastSeq = some r.seq := by
  have hseq : (Closing.beforeCommand f e s).s.cmd.broadcastSeq = s.cmd.broadcastSeq :=
    congrArg CommandMarks.broadcastSeq (Closing.beforeCommand_marks f e s)
  have hnew : ¬((Closing.beforeCommand f e s).s.cmd.broadcastSeq == some r.seq) = true := by
    rw [hseq, beq_iff_eq]
    exact h.unseen
  have htaken := takenRequest_eq h.toAtGoodEnd h.held (by simp [h.broadcast])
  rw [closeFrame_broadcastSeq, (Closing.command_taken htaken).2 h.broadcast, Closing.takeBroadcast, if_neg hnew, h.name]
  dsimp only
  rw [if_pos (acceptsBroadcast_iff.2 hb)]
  exact Closing.execute_broadcastSeq _ r

/-! ### A broadcast that is ignored -/

/-- A broadcast with the recorded sequence is ignored without a count (R98). -/
theorem command_recorded (h : AtGoodEnd s f e) (hr : s.cmd.inFlight = some r) (hc : r.cls = .broadcast)
    (hseq : s.cmd.broadcastSeq = some r.seq) :
    (Closing.beforeCommand f e s).command = Closing.beforeCommand f e s := by
  have hmet : (Closing.beforeCommand f e s).s.cmd.broadcastSeq = some r.seq :=
    (congrArg CommandMarks.broadcastSeq (Closing.beforeCommand_marks f e s)).trans hseq
  rw [(Closing.command_taken (takenRequest_eq h hr (by simp [hc]))).2 hc, Closing.takeBroadcast,
    if_pos (beq_iff_eq.2 hmet)]

end

/-- Settles O34: a broadcast with the recorded sequence leaves no trace, one of another code marks alone, and an
accepted one its sequence, beside the record that the works make without it. -/
theorem broadcastsPassTheirOwnRecord : Obligations.BroadcastsPassTheirOwnRecord := by
  unfold Obligations.BroadcastsPassTheirOwnRecord
  intro s f e r h hr hc
  have hexec := exec_frameEnd_eq e h.toAtEnd
  have hexec' := exec_frameEnd_eq e h.toAtEnd.withoutCommand
  refine ⟨fun hseq => ?_, fun hnew => ⟨_, _, hexec, hexec', fun hn => ?_, fun hb => ?_⟩⟩
  · rw [hexec, hexec', closeFrame_dropped (command_recorded h hr hc hseq)]
  · obtain ⟨u, q, hu, hq, -, hbroadcast⟩ := refusedCommandsChangeNothing s f e r h hr
    cases hu.symm.trans hexec
    cases hq.symm.trans hexec'
    obtain ⟨-, hignored⟩ := hbroadcast hc hnew
    obtain ⟨hresp, hseq, hsame⟩ := hignored hn
    exact ⟨hseq, hresp, hsame⟩
  · have hname : ∃ n, r.name = some n := Option.ne_none_iff_exists'.1 fun hnone => by simp [hnone] at hb
    obtain ⟨n, hn⟩ := hname
    have hears : HearsBroadcast s f e r n := ⟨h, hr, hn, hc, hnew⟩
    rw [hn] at hb ⊢
    exact ⟨hears.broadcastSeq hb, fun hp => hears.record hb (hp.imp_left fun hne heq => hne (congrArg some heq))⟩

end Sys2Proof.Machine
end

section
/-! PROOFS. What a unicast command leaves as the frame end without it leaves it (O36): the works bring both frame ends to
the same counted node but for the command's own, and its execution reaches one block (R96, R102). -/

namespace Sys2Proof.Machine

/-- Command `n` has left in `u` what it does not own as the frame end without it leaves it in `q`; the counters, the
snapshots and the notices where the frame end from `s` is calm. -/
structure LeavesOthers (s : State) (n : CommandName) (u q : State) : Prop where
  inputs : u.inputs = q.inputs
  arbiter : u.arb = q.arb
  map : n ∉ [.writeEntries, .copyActive, .commit, .cancelCommit] → u.map = q.map
  outputs : n ≠ .setParameter → u.outputs = q.outputs ∧ u.cmd.params = q.cmd.params
  address : n ≠ .assignAddress → u.cmd.address = q.cmd.address
  counters : Calm s → n ∉ [.setCounter, .clearCounters, .gate, .takeSnapshot] → u.counters = q.counters
  snaps : Calm s → n ∉ [.takeSnapshot, .cancelSnapshot, .releaseSnapshot] → u.snaps = q.snaps
  notices : Calm s → n ∉ [.acknowledgeNotice, .setParameter, .takeSnapshot] → u.notices = q.notices

section
variable {s u q t : State} {f : FrameInFlight} {e : FrameClose} {r : Request} {n : CommandName}

/-- What differs by the answer alone differs in nothing that a command does not own. -/
theorem SameButForTheAnswer.leavesOthers (h : SameButForTheAnswer s u q) (n : CommandName) : LeavesOthers s n u q := by
  obtain ⟨-, -, -, hmap, ⟨hin, hout⟩, ⟨haddress, hparams, -⟩, harb, -, hcalm⟩ := h
  refine ⟨hin, harb, fun _ => hmap, fun _ => ⟨hout, hparams⟩, fun _ => haddress, fun hc _ => ?_, fun hc _ => ?_,
    fun hc _ => ?_⟩ <;> obtain ⟨hcounters, hsnaps, hnotices⟩ := hcalm hc
  · exact hcounters
  · exact hsnaps
  · exact hnotices

/-! ### The execution of a command -/

/-- A command reaches its own block, and leaves the others as the node that it acts on has them. -/
theorem LeavesOthers.reaches (h : LeavesOthers s n t q) (hn : n ≠ .nodeReset) (hr : Reaches r t n u) :
    LeavesOthers s n u q := by
  obtain ⟨hin, harb, hmap, hout, haddress, hcounters, hsnaps, hnotices⟩ := h
  cases hr with
  | reads _ _ => exact ⟨hin, harb, hmap, hout, haddress, hcounters, hsnaps, hnotices⟩
  | address a => exact ⟨hin, harb, hmap, hout, fun ho => absurd rfl ho, hcounters, hsnaps, hnotices⟩
  | parameter p o k =>
    exact ⟨hin, harb, hmap, fun ho => absurd rfl ho, haddress, hcounters, hsnaps, fun _ ho => absurd ho (by decide)⟩
  | map _ own m => exact ⟨hin, harb, fun ho => absurd own ho, hout, haddress, hcounters, hsnaps, hnotices⟩
  | counters _ own b =>
    have howned : n ∈ [CommandName.setCounter, .clearCounters, .gate, .takeSnapshot] :=
      List.mem_append_left [CommandName.takeSnapshot] own
    exact ⟨hin, harb, hmap, hout, haddress, fun _ ho => absurd howned ho, hsnaps, hnotices⟩
  | snaps _ own k => exact ⟨hin, harb, hmap, hout, haddress, hcounters, fun _ ho => absurd own ho, hnotices⟩
  | reset => exact absurd rfl hn

theorem LeavesOthers.answer (h : LeavesOthers s n u q) (r : Request) (x : ResponseRecord) :
    LeavesOthers s n (u.answer r x) q := by
  obtain ⟨hin, harb, hmap, hout, haddress, hcounters, hsnaps, hnotices⟩ := h
  obtain ⟨y, hy⟩ := u.answer_eq r x
  rw [hy]
  exact ⟨hin, harb, hmap, hout, haddress, hcounters, hsnaps, hnotices⟩

/-! ### The counted node -/

/-- The frame end without a command is its works, counted. -/
theorem NoCommand.closeFrame_counted (h : NoCommand s) (f : FrameInFlight) (e : FrameClose) :
    (closeFrame f e s).s = countedState f e s := by
  rw [closeFrame_eq_run, h.settled_taking]
  rfl

/-- No command reaches the input channels, or the courtesy gap, before it acts. -/
theorem countedState_inputs (f : FrameInFlight) (e : FrameClose) (s : State) :
    (countedState f e s).inputs = (Closing.begin f e s).s.inputs := by
  obtain ⟨-, -, -, -, -, hin, -⟩ := Closing.count_state (Closing.settled f e s).beforeCapture
  obtain ⟨l, o, k, hb⟩ := (Closing.settled f e s).beforeCapture_eq
  have hstands : (Closing.settled f e s).beforeCapture.s.inputs = (Closing.worked f e s).s.inputs := by
    rw [hb]
    rfl
  exact (hin.trans hstands).trans (Closing.worked_same f e s).inputs

theorem countedState_arbiter (f : FrameInFlight) (e : FrameClose) (s : State) : (countedState f e s).arb =
    { gap := (Closing.begin f e s).s.arb.gap, item := .none, written := false, denied := false
      sentResponse := false } := by
  obtain ⟨l, -, harb, -⟩ := countedState_eq f e s
  rw [harb, ← (Closing.worked_same f e s).gap]

/-- A quiet frame end whose command does not capture evaluates no counter and captures nothing (R140, R154). -/
theorem Closing.Quiet.count_uncaptured {w : Closing} (h : w.Quiet) (hcap : w.taking.captures = false) :
    w.count.s = { w.s with counters := { w.s.counters with frame := FrameAmounts.zero } } := by
  have hcauses : w.causes w.s.counters = ({ w with taking := .nothing } : Closing).causes w.s.counters := by
    unfold Closing.causes
    rw [hcap]
    rfl
  have hcount : w.count.s = ({ w with taking := .nothing } : Closing).count.s := by
    rw [Closing.count, hcauses]
    rfl
  have hquiet : ({ w with taking := .nothing } : Closing).Quiet := ⟨h.gate, h.fired, h.mark⟩
  rw [hcount, Closing.count_quiet hquiet Taking.idle_nothing]

/-- At a calm frame end whose command does not capture, the counters and the snapshots stand, and the notices are those
that come to the capture. -/
theorem countedState_calm (hc : Calm s) (hcap : (Closing.settled f e s).taking.captures = false) :
    (countedState f e s).counters = { s.counters with frame := FrameAmounts.zero }
      ∧ (countedState f e s).snaps = s.snaps
      ∧ (countedState f e s).notices = (Closing.settled f e s).beforeCapture.s.notices := by
  obtain ⟨l, o, k, hb⟩ := (Closing.settled f e s).beforeCapture_eq
  obtain ⟨hbank, hgate⟩ := settled_counters s f e
  obtain ⟨-, hbegin⟩ := Closing.begin_snaps f e s
  rw [if_neg (by simp [SnapshotUnit.firesAt, hc.scheduled])] at hbegin
  have hsame := Closing.worked_same f e s
  obtain ⟨hstopped, hfired, hmark⟩ := (quiet_of_calm hc hsame).delivered (Closing.worked f e s).marks
  have hquiet : (Closing.settled f e s).beforeCapture.Quiet := by
    rw [hb]
    exact ⟨hstopped, hfired, hmark⟩
  have hcap' : (Closing.settled f e s).beforeCapture.taking.captures = false := by
    rw [hb]
    exact hcap
  unfold countedState
  rw [hquiet.count_uncaptured hcap', hb]
  refine ⟨?_, hsame.snaps.trans hbegin, rfl⟩
  dsimp only
  rw [hbank, hgate]

theorem Calm.withoutCommand (h : Calm s) : Calm s.withoutCommand := ⟨h.item, h.gate, h.scheduled, h.mark, h.copy⟩

/-! ### The counted node beside the frame end without the command -/

section
variable (h : Executes s f e r n) (hc : checkCommand n r (metByCommand s f e) = none)
include h hc

/-- A command other than SET PARAMETER finds the channels and the parameters that the frame end without it leaves. -/
theorem Executes.counted_outputs (hn : n ≠ .setParameter) :
    (countedState f e s).outputs = (closeFrame f e s.withoutCommand).s.outputs
      ∧ (countedState f e s).cmd.params = (closeFrame f e s.withoutCommand).s.cmd.params := by
  obtain ⟨hparams, -⟩ := s.withoutCommand_noCommand.closeFrame_channels (f := f) (e := e)
  refine ⟨?_, (h.counted_params hc hn).trans hparams.symm⟩
  rw [countedState_outputs, Closing.beforeCapture_stands (h.taking hc) hn, settled_outputs,
    closeFrame_withoutCommand_outputs]

/-- A command that does not act where the works meet leaves the notices to them. -/
theorem Executes.settled_notices (hn : n ∉ [.acknowledgeNotice, .nodeReset, .setParameter]) :
    (Closing.settled f e s).s.notices = (Closing.settled f e s.withoutCommand).s.notices := by
  have hcommand := Carries.command_eq (.inl h) h.not_broadcast hc
  rw [Closing.acceptedAs_marked _ _ _ hn] at hcommand
  obtain ⟨w, -, hs, hq⟩ := settled_of_marked hcommand
  rw [hs, hq]
  rfl

/-- TAKE SNAPSHOT alone captures (R159). -/
theorem Executes.captures_eq (hn : n ≠ .takeSnapshot) : (Closing.settled f e s).taking.captures = false := by
  rw [h.taking hc]
  unfold Taking.captures
  split
  · next heq =>
    cases heq
    exact absurd rfl hn
  · rfl

/-- The counted node, before the command acts, beside the frame end without the command. -/
theorem Executes.counted_leavesOthers (hreset : n ≠ .nodeReset) :
    LeavesOthers s n (countedState f e s) (closeFrame f e s.withoutCommand).s := by
  have hno := s.withoutCommand_noCommand
  have hidle : (Closing.settled f e s.withoutCommand).taking = .nothing := hno.settled_taking f e
  have hcap : (Closing.settled f e s.withoutCommand).taking.captures = false := by
    rw [hidle]
    rfl
  have houtputs := h.counted_outputs hc
  rw [hno.closeFrame_counted] at houtputs ⊢
  refine ⟨?_, ?_, fun _ => ?_, houtputs, fun _ => ?_, fun hcalm hn => ?_, fun hcalm hn => ?_, fun hcalm hn => ?_⟩
  case refine_1 =>
    rw [countedState_inputs, countedState_inputs, Closing.begin_withoutCommand]
    rfl
  case refine_2 =>
    rw [countedState_arbiter, countedState_arbiter, Closing.begin_withoutCommand]
    rfl
  case refine_3 =>
    rw [countedState_map, countedState_map]
    rfl
  case refine_4 =>
    rw [countedState_address, countedState_address]
    rfl
  case refine_5 =>
    obtain ⟨hcounters, -⟩ := countedState_calm hcalm (h.captures_eq hc fun ht => hn (by simp [ht]))
    obtain ⟨hcounters', -⟩ := countedState_calm hcalm.withoutCommand hcap
    exact hcounters.trans hcounters'.symm
  case refine_6 =>
    obtain ⟨-, hsnaps, -⟩ := countedState_calm hcalm (h.captures_eq hc fun ht => hn (by simp [ht]))
    obtain ⟨-, hsnaps', -⟩ := countedState_calm hcalm.withoutCommand hcap
    exact hsnaps.trans hsnaps'.symm
  case refine_7 =>
    simp only [List.mem_cons, List.not_mem_nil, or_false, not_or] at hn
    obtain ⟨hack, hset, htake⟩ := hn
    obtain ⟨-, -, hnotices⟩ := countedState_calm hcalm (h.captures_eq hc htake)
    obtain ⟨-, -, hnotices'⟩ := countedState_calm hcalm.withoutCommand hcap
    rw [hnotices, hnotices', Closing.beforeCapture_stands (h.taking hc) hset,
      Closing.beforeCapture_idle (hidle ▸ Taking.idle_nothing), h.settled_notices hc (by simp [*])]

end

/-! ### The frame end -/

/-- Accepted or refused, a unicast leaves what it does not own as the frame end without it does. -/
theorem Executes.leavesOthers (h : Executes s f e r n) (hn : n ≠ .nodeReset) :
    LeavesOthers s n (closeFrame f e s).s (closeFrame f e s.withoutCommand).s := by
  cases hc : checkCommand n r (metByCommand s f e) with
  | some t =>
    obtain ⟨-, hsame⟩ := closeFrame_refused_unicast h.toAtGoodEnd h.held h.unicast h.unseen (.inr ⟨n, h.name, hc⟩)
    exact hsame.leavesOthers n
  | none =>
    obtain ⟨k, hu⟩ := Carries.closeFrame_accepted (.inl h) h.not_broadcast hc
    rw [hu]
    exact ((h.counted_leavesOthers hc hn).reaches hn (doCommand_reaches n r k _)).answer r _

/-- A unicast leaves the broadcast sequence alone (R98). -/
theorem Executes.broadcastSeq (h : Executes s f e r n) :
    (closeFrame f e s).s.cmd.broadcastSeq = s.cmd.broadcastSeq := by
  rw [closeFrame_broadcastSeq, h.command_execute, Closing.execute_broadcastSeq]
  exact congrArg CommandMarks.broadcastSeq (Closing.beforeCommand_marks f e s)

end

/-- Settles O36: the frame, the line, the Link Receiver and the slots are every frame end's own, and the rest is left by
the command that does not own it. -/
theorem commandsKeepToTheirOwnState : Obligations.CommandsKeepToTheirOwnState := by
  unfold Obligations.CommandsKeepToTheirOwnState
  intro s f e r n h hn
  obtain ⟨hheld, hpending, hframe, hlink, htx⟩ := closeFrame_host f e s
  obtain ⟨hheld', hpending', hframe', hlink', htx'⟩ := closeFrame_host f e s.withoutCommand
  obtain ⟨-, hslots⟩ := closeFrame_cleared f e s
  obtain ⟨-, hslots'⟩ := closeFrame_cleared f e s.withoutCommand
  obtain ⟨hin, harb, hmap, hout, haddress, hcounters, hsnaps, hnotices⟩ := h.leavesOthers hn
  exact ⟨_, _, Carries.exec_eq (.inl h), exec_frameEnd_eq e h.toAtEnd.withoutCommand, hlink.trans hlink'.symm,
    hframe.trans hframe'.symm, htx.trans htx'.symm, hslots.trans hslots'.symm, hin, harb, hheld.trans hheld'.symm,
    hpending.trans hpending'.symm, h.broadcastSeq, closeFrame_execute_sequence h.command_execute (.inl h.unicast),
    hmap, hout, haddress, hcounters, hsnaps, hnotices⟩

end Sys2Proof.Machine
end

section
/-! PROOFS. The raising of a notice, case by case (O23): barred by the mask, folded into the record of its kind,
appended or dropped (R124, R125, R131). -/

namespace Sys2Proof.Machine

section
variable {q : NoticeQueue} {mask : BitVec 8} {item : RegionItem} {n : Notice}

theorem NoticeQueue.raise_masked (hb : mask.getLsbD (noticeIndex n.kind).val = false) : q.raise mask item n = q := by
  unfold NoticeQueue.raise
  rw [hb]
  rfl

/-- Where a record of its kind stands, the notice is folded into the first (R124). -/
theorem NoticeQueue.raise_folds (hb : mask.getLsbD (noticeIndex n.kind).val = true) {r : NoticeRecord}
    (hf : q.records.find? (fun r => r.kind == n.kind) = some r) : q.raise mask item n =
      { q with
        records := modifyFirst (fun r => r.kind == n.kind) (NoticeRecord.fold (item == .notice n.kind) q.seqCounter n)
          q.records
        seqCounter := if r.isAwaiting then q.seqCounter + 1 else q.seqCounter } := by
  unfold NoticeQueue.raise
  rw [hb, hf]
  rfl

theorem NoticeQueue.raise_appends (hb : mask.getLsbD (noticeIndex n.kind).val = true)
    (hno : ∀ x ∈ q.records, x.kind ≠ n.kind) (hlt : q.records.length < 6) : q.raise mask item n =
      { q with
        records := q.records ++ [{ notice := n, seq := q.seqCounter, repeats := 0, state := .queued false }]
        seqCounter := q.seqCounter + 1 } := by
  unfold NoticeQueue.raise
  rw [hb, NoticeQueue.find?_none hno]
  exact if_pos hlt

theorem NoticeQueue.raise_drops (hb : mask.getLsbD (noticeIndex n.kind).val = true)
    (hno : ∀ x ∈ q.records, x.kind ≠ n.kind) (hge : 6 ≤ q.records.length) : q.raise mask item n =
      { q with dropped := min 255 (q.dropped + 1), pendingDrops := q.pendingDrops + 1 } := by
  unfold NoticeQueue.raise
  rw [hb, NoticeQueue.find?_none hno]
  exact if_neg (Nat.not_lt.2 hge)

end

/-- Settles O23: the first record of the kind, if there is one, takes the notice as its state says. -/
theorem raisedNoticeFoldsAppendsOrDrops : Obligations.RaisedNoticeFoldsAppendsOrDrops := by
  unfold Obligations.RaisedNoticeFoldsAppendsOrDrops
  intro q mask item n
  refine ⟨NoticeQueue.raise_masked, fun hb => ⟨fun before r after hq hr hbefore => ?_, NoticeQueue.raise_appends hb,
    NoticeQueue.raise_drops hb⟩⟩
  have hfold : modifyFirst (fun r => r.kind == n.kind) (NoticeRecord.fold (item == .notice n.kind) q.seqCounter n)
      q.records = before ++ r.fold (item == .notice n.kind) q.seqCounter n :: after := by
    rw [hq]
    exact modifyFirst_append _ _ after (by simpa using hbefore) (by simpa using hr)
  rw [NoticeQueue.raise_folds hb (NoticeQueue.find?_first hq hr hbefore), hfold]
  constructor
  · intro renewed hs
    have hfirst : r.isAwaiting = false := by rw [NoticeRecord.isAwaiting, hs]
    simp only [NoticeRecord.fold, hs, hfirst, bumpRepeats, Bool.false_eq_true, if_false, beq_eq_decide]
  · intro k hs
    have hfirst : r.isAwaiting = true := by rw [NoticeRecord.isAwaiting, hs]
    simp only [NoticeRecord.fold, hs, hfirst, bumpRepeats, if_true]

end Sys2Proof.Machine
end

section
/-! PROOFS. The queues stay in bounds under every happening (O53): a raising folds into the record of its kind or takes
a free place, a capture is made only while its queue has a place, and a new mask removes what it bars (R124, R130,
R156). -/

namespace Sys2Proof.Machine

/-! ### The notice queue by itself (R124, R125, R130, R131) -/

/-- At most 6 records, no two of one kind and none of a kind that the mask bars; repeat counts of at most 127 and a
dropped count of at most 255. -/
structure NoticeQueue.Distinct (q : NoticeQueue) (mask : BitVec 8) : Prop where
  places : q.records.length ≤ 6
  kinds : (q.records.map NoticeRecord.kind).Nodup
  enabled : q.Enabled mask
  repeats : ∀ r ∈ q.records, r.repeats ≤ 127
  dropped : q.dropped ≤ 255

/-- A folded record has one repeat more, at most 127 (R125). -/
theorem NoticeRecord.fold_repeats (w : Bool) (q : SequenceNumber) (n : Notice) (r : NoticeRecord) :
    (r.fold w q n).repeats = min 127 (r.repeats + 1) := by
  unfold NoticeRecord.fold
  split <;> rfl

theorem NoticeRecord.settle_repeats (d : Bool) (k : Nat) (q : SequenceNumber) (r : NoticeRecord) :
    (r.settle d k q).repeats = r.repeats := by
  unfold NoticeRecord.settle
  split
  · split
    · split <;> rfl
    · rfl
  · rfl

theorem NoticeRecord.countDown_repeats (r : NoticeRecord) : r.countDown.repeats = r.repeats := by
  unfold NoticeRecord.countDown
  split <;> rfl

section
variable {q : NoticeQueue} {mask : BitVec 8}

theorem NoticeQueue.distinct_empty (h : q.records = []) (hd : q.dropped ≤ 255) (mask : BitVec 8) : q.Distinct mask := by
  refine ⟨?_, ?_, ⟨?_⟩, ?_, hd⟩ <;> simp [h]

/-- What keeps the records' kinds and repeat counts, one by one, keeps them distinct. -/
theorem NoticeQueue.Distinct.of_kinds (h : q.Distinct mask) {q' : NoticeQueue}
    (hk : q'.records.map NoticeRecord.kind = q.records.map NoticeRecord.kind)
    (hr : ∀ r ∈ q'.records, r.repeats ≤ 127) (hd : q'.dropped ≤ 255) : q'.Distinct mask := by
  have hlength : q'.records.length = q.records.length := by simpa using congrArg List.length hk
  refine ⟨hlength ▸ h.places, hk ▸ h.kinds, h.enabled.of_kinds fun r hmem => ?_, hr, hd⟩
  have hmem' := List.mem_map_of_mem (f := NoticeRecord.kind) hmem
  rw [hk] at hmem'
  obtain ⟨r', hr', he⟩ := List.mem_map.1 hmem'
  exact ⟨r', hr', he.symm⟩

/-- Removing records keeps the others distinct. -/
theorem NoticeQueue.Distinct.of_sublist (h : q.Distinct mask) {q' : NoticeQueue} {mask' : BitVec 8}
    (hs : q'.records.Sublist q.records) (he : q'.Enabled mask') (hd : q'.dropped ≤ 255) : q'.Distinct mask' :=
  ⟨hs.length_le.trans h.places, (hs.map _).nodup h.kinds, he, fun r hr => h.repeats r (hs.subset hr), hd⟩

/-- A raised notice is barred, joins the record of its kind, takes a free place, or is dropped (R124, R125, R131). -/
theorem NoticeQueue.Distinct.raise (h : q.Distinct mask) (item : RegionItem) (n : Notice) :
    (q.raise mask item n).Distinct mask := by
  have henabled := h.enabled.raise item n
  cases hb : mask.getLsbD (noticeIndex n.kind).val with
  | false =>
    rw [NoticeQueue.raise_masked hb]
    exact h
  | true =>
    cases hf : q.records.find? (fun r => r.kind == n.kind) with
    | some r =>
      rw [NoticeQueue.raise_folds hb hf]
      refine h.of_kinds (modifyFirst_map _ _ _ (fun r hr => ?_) _) (fun r hr => ?_) h.dropped
      · rw [NoticeRecord.kind_fold, beq_iff_eq.1 hr]
      · rcases mem_modifyFirst hr with hr | ⟨r', -, rfl⟩
        · exact h.repeats r hr
        · rw [NoticeRecord.fold_repeats]
          exact Nat.min_le_left ..
    | none =>
      have hno : ∀ x ∈ q.records, x.kind ≠ n.kind := by simpa using hf
      by_cases hlt : q.records.length < 6
      · rw [NoticeQueue.raise_appends hb hno hlt] at henabled ⊢
        refine ⟨by simpa using hlt, ?_, henabled, fun r hr => ?_, h.dropped⟩
        · simpa [List.nodup_append, h.kinds, NoticeRecord.kind] using hno
        · rcases List.mem_append.1 hr with hr | hr
          · exact h.repeats r hr
          · rw [List.mem_singleton.1 hr]
            exact Nat.zero_le _
      · rw [NoticeQueue.raise_drops hb hno (Nat.not_lt.1 hlt)] at henabled ⊢
        exact ⟨h.places, h.kinds, henabled, h.repeats, Nat.min_le_left ..⟩

theorem NoticeQueue.Distinct.settle (h : q.Distinct mask) (delivered : Bool) (resend : Nat) (k : NoticeKind) :
    (q.settle delivered resend k).Distinct mask := by
  refine h.of_kinds (modifyFirst_map _ _ _ (fun r _ => NoticeRecord.kind_settle ..) _) (fun r hr => ?_) h.dropped
  rcases mem_modifyFirst hr with hr | ⟨r', hr', rfl⟩
  · exact h.repeats r hr
  · rw [NoticeRecord.settle_repeats]
    exact h.repeats r' hr'

theorem NoticeQueue.Distinct.countDown (h : q.Distinct mask) :
    NoticeQueue.Distinct { q with records := q.records.map NoticeRecord.countDown } mask := by
  refine h.of_kinds ?_ (fun r hr => ?_) h.dropped
  · rw [List.map_map]
    exact List.map_congr_left fun r _ => NoticeRecord.kind_countDown r
  · obtain ⟨r', hr', rfl⟩ := List.mem_map.1 hr
    rw [NoticeRecord.countDown_repeats]
    exact h.repeats r' hr'

/-- A new mask removes the records that it bars (R130). -/
theorem NoticeQueue.Distinct.maskOff (h : q.Distinct mask) (mask' : BitVec 8) : (q.maskOff mask').Distinct mask' :=
  h.of_sublist List.filter_sublist (q.enabled_maskOff mask') h.dropped

end

/-! ### The node -/

/-- The snapshot queue holds at most 4 records, and the lost count is at most 255 (R156, R157). -/
structure SnapshotUnit.Bounded (u : SnapshotUnit) : Prop where
  depth : u.queue.length ≤ 4
  lost : u.lost ≤ 255

/-- The bounds of O53, which stand within a frame end too. -/
structure State.Bounded (s : State) : Prop where
  snaps : s.snaps.Bounded
  notices : s.notices.Distinct s.cmd.params.noticeMask

theorem bounded_iff {s : State} : s.Bounded ↔ SnapshotsBounded s ∧ NoticesDistinct s := by
  constructor
  · rintro ⟨⟨h1, h2⟩, h3, h4, ⟨h5⟩, h6, h7⟩
    exact ⟨⟨h1, h2⟩, h3, h4, h5, h6, h7⟩
  · rintro ⟨⟨h1, h2⟩, h3, h4, h5, h6, h7⟩
    exact ⟨⟨h1, h2⟩, h3, h4, ⟨h5⟩, h6, h7⟩

section
variable {s : State}

theorem State.Bounded.raise (h : s.Bounded) (n : Notice) : (s.raise n).Bounded := ⟨h.snaps, h.notices.raise ..⟩

theorem State.Bounded.answer (h : s.Bounded) (r : Request) (x : ResponseRecord) : (s.answer r x).Bounded := by
  obtain ⟨y, hy⟩ := s.answer_eq r x
  rw [hy]
  exact ⟨h.snaps, h.notices⟩

/-- A new hold limit can raise OUTPUT_EXPIRED (R86). -/
theorem State.Bounded.limitLowered (h : s.Bounded) (c : Channel) : (s.limitLowered c).Bounded := by
  unfold State.limitLowered
  split
  · exact ⟨h.snaps, h.notices.raise ..⟩
  · exact h

/-- Of the parameters NOTICE_MASK and the hold limits alone reach the notices (R86, R130). -/
theorem State.Bounded.doSetParameter (h : s.Bounded) (r : Request) : (doSetParameter r s).1.Bounded := by
  unfold Machine.doSetParameter
  split
  · next p hp =>
    dsimp only
    split
    · exact h
    · cases p with
      | noticeMask => exact ⟨h.snaps, h.notices.maskOff _⟩
      | holdLimit c => exact State.Bounded.limitLowered (s := s.putParam (.holdLimit c) r.p1) ⟨h.snaps, h.notices⟩ c
      | courtesyGap | flywheelLimit | noticeResend | snapOnSyncLoss | safeValue _ => exact ⟨h.snaps, h.notices⟩
  · exact h

/-! ### The works of a frame end -/

theorem State.Bounded.begin (h : s.Bounded) (f : FrameInFlight) (e : FrameClose) : (Closing.begin f e s).s.Bounded := by
  obtain ⟨-, hsnaps⟩ := Closing.begin_snaps f e s
  refine ⟨?_, by rw [Closing.begin_notices, Closing.begin_cmd]; exact h.notices⟩
  rw [hsnaps]
  split <;> exact ⟨h.snaps.depth, h.snaps.lost⟩

theorem State.Bounded.settleItem (h : s.Bounded) (delivered : Bool) : (s.settleItem delivered).Bounded := by
  unfold State.settleItem
  split
  · exact h
  · exact ⟨h.snaps, h.notices.settle ..⟩
  · split
    · split <;> exact ⟨h.snaps, h.notices⟩
    all_goals exact ⟨h.snaps, h.notices⟩

/-- An acknowledgement removes a record, and a new mask those that it bars (R128, R130). -/
theorem State.Bounded.meetCommand (h : s.Bounded) (n : CommandName) (r : Request) (b : Bool) :
    (meetCommand n r b s).Bounded := by
  cases n
  case acknowledgeNotice =>
    refine ⟨h.snaps, h.notices.of_sublist List.eraseP_sublist ?_ (Nat.zero_le _)⟩
    exact h.notices.enabled.of_kinds fun r hr => ⟨r, List.mem_of_mem_eraseP hr, rfl⟩
  case nodeReset =>
    unfold Machine.meetCommand
    dsimp only
    split
    · exact ⟨h.snaps, h.notices⟩
    · exact h
  case setParameter =>
    show (meetParameter r b s).Bounded
    unfold meetParameter
    split
    · exact h.doSetParameter r
    · exact h
  all_goals exact h

end

theorem Closing.Commanded.bounded {w v : Closing} (hc : w.Commanded v) (h : w.s.Bounded) : v.s.Bounded := by
  cases hc with
  | marks m _ => exact ⟨h.snaps, h.notices⟩
  | resent => exact ⟨h.snaps, h.notices⟩
  | accepted r n q _ =>
    have hq : State.Bounded { w.s with cmd := { w.s.cmd with broadcastSeq := q } } := ⟨h.snaps, h.notices⟩
    have hm := hq.meetCommand n r w.snapshotFirst
    exact ⟨hm.snaps, hm.notices⟩

theorem State.Bounded.item {w : Closing} (h : w.s.Bounded) (i : EndItem) : (w.item i).s.Bounded := by
  cases i with
  | resend => exact ⟨h.snaps, h.notices.countDown⟩
  | delivery => exact h.settleItem _
  | jumpRaise =>
    show w.jumpRaise.s.Bounded
    unfold Closing.jumpRaise
    split
    · exact h.raise _
    · exact h
  | expiryRaise =>
    show w.expiryRaise.s.Bounded
    unfold Closing.expiryRaise
    split
    · exact h
    · exact h.raise _
  | copyCompletion =>
    show w.copyCompletion.s.Bounded
    unfold Closing.copyCompletion
    split
    · exact ⟨h.snaps, h.notices⟩
    · exact h
  | command => exact w.command_commanded.bounded h

theorem State.Bounded.meet {w : Closing} (h : w.s.Bounded) (items : List EndItem) : (w.meet items).s.Bounded := by
  unfold Closing.meet
  induction items generalizing w with
  | nil => exact h
  | cons i rest ih => exact ih (State.Bounded.item h i)

/-! ### Counting, capture and the command -/

theorem State.Bounded.beforeCapture {w : Closing} (h : w.s.Bounded) : w.beforeCapture.s.Bounded := by
  unfold Closing.beforeCapture
  split
  · exact h
  · show (w.taking.beforeCapture w.s).Bounded
    unfold Taking.beforeCapture
    split
    · unfold limitBeforeCapture
      split
      · exact h.doSetParameter _
      · exact h
    · exact h

/-- A capture is made only while the queue has a place, and a lost one counted up to 255 (R156, R157). -/
theorem State.Bounded.count {w : Closing} (h : w.s.Bounded) : w.count.s.Bounded := by
  show State.Bounded (State.captureStep { w.s with counters := w.s.counters.evaluate } w.frame.number
    (w.causes w.s.counters))
  rcases State.captureStep_cases { w.s with counters := w.s.counters.evaluate } w.frame.number
    (w.causes w.s.counters) with ⟨-, hs⟩ | ⟨-, hlt, hs⟩ | ⟨-, -, hs⟩ <;> rw [hs]
  · exact ⟨⟨h.snaps.depth, h.snaps.lost⟩, h.notices⟩
  · refine ⟨⟨?_, h.snaps.lost⟩, h.notices.raise ..⟩
    show (w.s.snaps.queue ++ [_]).length ≤ 4
    rw [List.length_append]
    exact hlt
  · exact ⟨⟨h.snaps.depth, Nat.min_le_left ..⟩, h.notices.raise ..⟩

theorem State.Bounded.doCommand {s : State} (h : s.Bounded) (n : CommandName) (r : Request) (k : Capture) :
    (doCommand n r k s).1.Bounded := by
  by_cases hn : n ∈ [.setParameter, .takeSnapshot, .cancelSnapshot, .releaseSnapshot]
  · simp only [List.mem_cons, List.not_mem_nil, or_false] at hn
    rcases hn with rfl | rfl | rfl | rfl
    · exact h.doSetParameter r
    · unfold Machine.doCommand doTakeSnapshot
      dsimp only
      split
      · exact h
      · exact ⟨⟨h.snaps.depth, h.snaps.lost⟩, h.notices⟩
    · exact ⟨⟨h.snaps.depth, h.snaps.lost⟩, h.notices⟩
    · exact ⟨⟨(List.tail_sublist _).length_le.trans h.snaps.depth, h.snaps.lost⟩, h.notices⟩
  · have hr := doCommand_reaches n r k s
    generalize (Machine.doCommand n r k s).1 = u at hr
    cases hr with
    | parameter _ _ _ => exact absurd (by decide) hn
    | snaps n own u => exact absurd (List.mem_cons_of_mem _ own) hn
    | reset =>
      have hempty : NoticeQueue.Distinct { s.notices with records := [], dropped := 0 } Parameters.default.noticeMask :=
        NoticeQueue.distinct_empty rfl (Nat.zero_le _) _
      exact ⟨⟨Nat.zero_le _, Nat.zero_le _⟩, hempty.raise s.arb.item _⟩
    | reads _ _ | address _ | map _ _ _ | counters _ _ _ => exact ⟨h.snaps, h.notices⟩

/-- A frame end keeps the bounds, whatever its works and its command. -/
theorem State.Bounded.closeFrame {s : State} (h : s.Bounded) (f : FrameInFlight) (e : FrameClose) :
    (closeFrame f e s).s.Bounded := by
  have hworked : (Closing.worked f e s).s.Bounded := (h.begin f e).meet _
  have hsettled : (Closing.settled f e s).s.Bounded :=
    ⟨hworked.snaps, hworked.notices.of_kinds rfl hworked.notices.repeats hworked.notices.dropped⟩
  have hcounted : (countedState f e s).Bounded := hsettled.beforeCapture.count
  rw [closeFrame_eq_run]
  cases (Closing.settled f e s).taking with
  | nothing => exact hcounted
  | turned r t => exact hcounted.answer r _
  | accepted r n => exact (hcounted.doCommand n r _).answer r _

/-! ### Every other happening raises one notice at most -/

/-- From `s` to `t` the Snapshot Unit's queue and the parameters stand, and at most one notice is raised. -/
structure RaisesOne (s t : State) : Prop where
  params : t.cmd.params = s.cmd.params
  snaps : t.snaps.queue = s.snaps.queue ∧ t.snaps.lost = s.snaps.lost
  notices : t.notices = s.notices ∨ ∃ item n, t.notices = s.notices.raise s.cmd.params.noticeMask item n

theorem RaisesOne.bounded {s t : State} (h : RaisesOne s t) (hs : s.Bounded) : t.Bounded := by
  obtain ⟨hparams, ⟨hqueue, hlost⟩, hnotices⟩ := h
  refine ⟨⟨hqueue ▸ hs.snaps.depth, hlost ▸ hs.snaps.lost⟩, ?_⟩
  rw [hparams]
  rcases hnotices with hq | ⟨item, n, hq⟩ <;> rw [hq]
  · exact hs.notices
  · exact hs.notices.raise item n

section
variable {s t : State}

/-- A happening that reaches none of the three. -/
theorem RaisesOne.none (hp : t.cmd.params = s.cmd.params) (hs : t.snaps = s.snaps) (hn : t.notices = s.notices) :
    RaisesOne s t := ⟨hp, by simp [hs], .inl hn⟩

theorem RaisesOne.refl (s : State) : RaisesOne s s := .none rfl rfl rfl

/-- What follows without reaching any of the three. -/
theorem RaisesOne.then {u : State} (h : RaisesOne s t) (hp : u.cmd.params = t.cmd.params) (hs : u.snaps = t.snaps)
    (hn : u.notices = t.notices) : RaisesOne s u :=
  ⟨hp.trans h.params, by rw [hs]; exact h.snaps, by rw [hn]; exact h.notices⟩

theorem RaisesOne.of_happens {u : State} (h : happens s t = .next u) (ht : RaisesOne s t) : RaisesOne s u := by
  rcases happens_cases h with rfl | rfl
  · exact .refl _
  · exact ht

end

/-- SYNC_LOST (R22). -/
theorem State.failVerify_raises (s : State) : RaisesOne s s.failVerify := by
  unfold State.failVerify
  dsimp only
  split
  · exact .none rfl rfl rfl
  · exact ⟨rfl, ⟨rfl, rfl⟩, .inr ⟨_, _, rfl⟩⟩

/-- SYNC_REGAINED (R28). -/
theorem State.lockAt_raises (s : State) (p : BitTime) : RaisesOne s (s.lockAt p) := by
  unfold State.lockAt
  dsimp only
  split
  · exact ⟨rfl, ⟨rfl, rfl⟩, .inr ⟨_, _, rfl⟩⟩
  · exact .none rfl rfl rfl

theorem State.relock_keeps (s : State) (p : BitTime) : (s.relock p).cmd = s.cmd ∧ (s.relock p).snaps = s.snaps
    ∧ (s.relock p).notices = s.notices := by
  unfold State.relock
  split <;> exact ⟨rfl, rfl, rfl⟩

/-- SYNC_LOST at the flywheel limit (R19 to R22). -/
theorem State.missSync_raises (s : State) (p : BitTime) (n : Nat) : RaisesOne s (s.missSync p n) := by
  unfold State.missSync
  dsimp only
  split
  · exact .none rfl rfl rfl
  · exact ⟨rfl, ⟨rfl, rfl⟩, .inr ⟨_, _, rfl⟩⟩

/-- COMMIT_DONE (R70). -/
theorem State.headerTime_raises (s : State) (f : FrameInFlight) (w : Word) : RaisesOne s (s.headerTime f w) := by
  have hfire : RaisesOne s (State.fireIfDue { s with map := s.map.atHeader }) := by
    unfold State.fireIfDue
    split
    · exact ⟨rfl, ⟨rfl, rfl⟩, .inr ⟨_, _, rfl⟩⟩
    · exact .none rfl rfl rfl
  exact hfire.then rfl rfl rfl

theorem State.commandRegion_raises (s : State) (f : FrameInFlight) (w p0 p1 p2 p3 : Word) :
    RaisesOne s (s.commandRegion f w p0 p1 p2 p3) := by
  unfold State.commandRegion
  dsimp only
  split <;> exact .none rfl rfl rfl

theorem State.responseRegion_raises (s : State) (f : FrameInFlight) (w d0 d1 d2 d3 : Word) :
    RaisesOne s (s.responseRegion f w d0 d1 d2 d3) := by
  unfold State.responseRegion
  dsimp only
  split
  · split <;> exact .none rfl rfl rfl
  · exact .none rfl rfl rfl

/-! ### Every happening -/

/-- A reset leaves no record but RESTARTED (R122, R153). -/
theorem bounded_cold (line : LineOut) (held : Bool) (rest : List Instr) :
    State.Bounded { State.cold line held with pending := rest } :=
  ⟨⟨Nat.zero_le _, Nat.zero_le _⟩, NoticeQueue.distinct_empty rfl (Nat.zero_le _) _⟩

theorem bounded_started (p : BitTime) (rest : List Instr) : State.Bounded { State.started p with pending := rest } :=
  ⟨⟨Nat.zero_le _, Nat.zero_le _⟩,
    (NoticeQueue.distinct_empty (q := NoticeQueue.reset) rfl (Nat.zero_le _) _).raise .none _⟩

/-- A happening resets the node, ends a frame, or raises one notice at most. -/
inductive QueueMove (s : State) : State → Prop
  | reset {t : State} (bounded : t.Bounded) : QueueMove s t
  | ends (f : FrameInFlight) (e : FrameClose) : QueueMove s (closeFrame f e s).s
  | raises {t : State} (raises : RaisesOne s t) : QueueMove s t

theorem exec_queueMove {i : Instr} {s t : State} (h : exec i s = .next t) : QueueMove s t := by
  have moves : ∀ {u : State}, happens s u = .next t → RaisesOne s u → QueueMove s t :=
    fun h hu => .raises (.of_happens h hu)
  cases i
  case powerOn p =>
    unfold exec execPowerOn at h
    cases h
    split
    · exact .reset (bounded_cold ..)
    · exact .reset (bounded_started ..)
  case resetPinLow p =>
    rcases happens_cases h with rfl | rfl
    · exact .raises (.refl _)
    · exact .reset (bounded_cold ..)
  case resetPinRelease p =>
    unfold exec execResetPinRelease at h
    cases h
    split
    · exact .reset (bounded_started ..)
    · exact .raises (.refl _)
  case startupIdleFillEnds =>
    refine moves h ?_
    split
    · exact .none rfl rfl rfl
    · exact .refl _
  case regeneratedFrameStart =>
    refine moves h ?_
    split
    · split
      · exact .none rfl rfl rfl
      · exact .refl _
    · exact .refl _
  case syncFoundInHunt p =>
    refine moves h ?_
    split
    · exact .none rfl rfl rfl
    · exact .refl _
  case candidateCheckWord content check =>
    refine moves h ?_
    split
    · split
      · exact .none rfl rfl rfl
      · exact s.failVerify_raises
    · exact .refl _
  case secondSyncJudged window =>
    refine moves h ?_
    split
    · next p _ =>
      split
      · split
        · obtain ⟨hcmd, hsnaps, hnotices⟩ := (s.lockAt (p + Config.frameBits)).relock_keeps (p + Config.frameBits)
          exact (s.lockAt_raises _).then (congrArg _ hcmd) hsnaps hnotices
        · exact s.failVerify_raises
      · exact .refl _
    · exact .refl _
  case syncFoundInLocked =>
    refine moves h ?_
    split
    · next p _ _ =>
      split
      · dsimp only
        split
        · obtain ⟨hcmd, hsnaps, hnotices⟩ := State.relock_keeps { s with link := s.link.foundAt p } p
          exact .none (congrArg _ hcmd) hsnaps hnotices
        · exact .none rfl rfl rfl
      · exact .refl _
    · exact .refl _
  case syncMissInLocked =>
    refine moves h ?_
    split
    · split
      · exact s.missSync_raises ..
      · exact .refl _
    · exact .refl _
  case syncFoundInFlywheel =>
    refine moves h ?_
    split
    · split
      · exact .none rfl rfl rfl
      · exact .refl _
    · exact .refl _
  case syncMissInFlywheel =>
    refine moves h ?_
    split
    · split
      · exact s.missSync_raises ..
      · exact .refl _
    · exact .refl _
  case syncFoundElsewhereInFlywheel p =>
    refine moves h ?_
    split
    · exact .none rfl rfl rfl
    · exact .refl _
  case headerTime w =>
    refine moves h ?_
    split
    · exact s.headerTime_raises ..
    · exact .refl _
  case commitFire w =>
    refine moves h ?_
    split
    · exact s.headerTime_raises ..
    · exact .refl _
  case slotInFlight w =>
    refine moves h ?_
    split
    · split
      · exact .none rfl rfl rfl
      · exact .refl _
    · exact .refl _
  case commandRegionHeader w names p0 p1 p2 p3 =>
    refine moves h ?_
    split
    · split
      · exact .refl _
      · exact s.commandRegion_raises ..
    · exact .refl _
  case responseRegionHeader w d0 d1 d2 d3 =>
    refine moves h ?_
    split
    · exact s.responseRegion_raises ..
    · exact .refl _
  case sampleArrival c v => exact moves h (.none rfl rfl rfl)
  all_goals
    rcases exec_close_cases rfl h with rfl | ⟨f, -, -, -, rfl⟩
    · exact .raises (.refl _)
    · exact .ends f _

theorem QueueMove.bounded {s t : State} (m : QueueMove s t) (h : s.Bounded) : t.Bounded := by
  cases m with
  | reset hb => exact hb
  | ends f e => exact h.closeFrame f e
  | raises hr => exact hr.bounded h

/-- Settles O53: each kind of move a step can make keeps both queues in bounds. -/
theorem queuesStayBounded : Obligations.QueuesStayBounded := by
  unfold Obligations.QueuesStayBounded
  intro s t hsnaps hnotices h
  have hs := bounded_iff.2 ⟨hsnaps, hnotices⟩
  unfold step at h
  split at h
  · cases h
    exact ⟨hsnaps, hnotices⟩
  · next i rest _ =>
    exact bounded_iff.1 ((exec_queueMove h).bounded ⟨hs.snaps, hs.notices⟩)

end Sys2Proof.Machine
end

section
/-! SUPPORT. The works of a frame end without a command, in their order: the resend step, and after it the delivery of
the item written; and what they make of the notices where nothing is raised (R120, R126, R127). -/

namespace Sys2Proof.Machine

/-! ### The resend step before the delivery (assumption 4) -/

theorem resend_mem_before_delivery {l : List EndItem} (h : EndItem.resend ∈ l) :
    EndItem.resend ∈ (placeResend l).takeWhile (· != .delivery) := by
  induction l with
  | nil => cases h
  | cons i rest ih =>
    unfold placeResend
    split
    · next hi => simp [beq_iff_eq.1 hi]
    · next hi =>
      split
      · simp
      · next hd =>
        have hne : (i != .delivery) = true := by
          rw [bne_iff_ne]
          rintro rfl
          exact hd rfl
        have hrest : EndItem.resend ∈ rest := (List.mem_cons.1 h).resolve_left fun heq => hi (beq_iff_eq.2 heq.symm)
        rw [List.takeWhile_cons, if_pos hne]
        exact List.mem_cons_of_mem _ (ih hrest)

theorem endItems_delivery (e : FrameClose) : ∃ before after, endItems e = before ++ .delivery :: after
    ∧ EndItem.resend ∈ before := by
  obtain ⟨before, after, he, hb⟩ := List.eq_append_cons_of_mem (mem_endItems e .delivery)
  have hresend : EndItem.resend ∈ (endItems e).takeWhile (· != .delivery) :=
    resend_mem_before_delivery (mem_keepFirst.2 ⟨List.mem_append_right _ (by decide), by simp⟩)
  have htake : (endItems e).takeWhile (· != .delivery) = before := by
    rw [he, List.takeWhile_append_of_pos (by rintro i hi; rw [bne_iff_ne]; rintro rfl; exact hb hi)]
    simp
  exact ⟨before, after, he, htake ▸ hresend⟩

/-! ### The works without the command -/

section
variable {s : State} {f : FrameInFlight} {e : FrameClose} {w : Closing} {items : List EndItem}

/-- With no command for the node its work is none. -/
theorem Closing.meet_uncommanded (h : NoCommand w.s) (items : List EndItem) :
    w.meet items = w.meet (items.filter (· != .command)) := by
  unfold Closing.meet
  induction items generalizing w with
  | nil => rfl
  | cons i rest ih =>
    have hnext : NoCommand (w.item i).s := by
      unfold NoCommand
      rw [(w.item_same i).held]
      exact h
    rw [List.foldl_cons, ih hnext]
    by_cases hi : i = .command
    · subst hi
      rw [List.filter_cons_of_neg (by simp)]
      exact congrArg (List.foldl Closing.item · _) (Closing.command_quiet h)
    · rw [List.filter_cons_of_pos (by simpa using hi), List.foldl_cons]

/-- So the works are the others, each once, the resend step before the delivery. -/
theorem NoCommand.worked_order (h : NoCommand s) (f : FrameInFlight) (e : FrameClose) :
    ∃ before after, Closing.worked f e s = (Closing.begin f e s).meet (before ++ .delivery :: after)
      ∧ (before ++ EndItem.delivery :: after).Nodup ∧ EndItem.command ∉ before ++ EndItem.delivery :: after
      ∧ EndItem.resend ∈ before := by
  obtain ⟨before, after, he, hr⟩ := endItems_delivery e
  have hfilter : (endItems e).filter (· != .command)
      = before.filter (· != .command) ++ .delivery :: after.filter (· != .command) := by
    rw [he, List.filter_append, List.filter_cons_of_pos (by decide)]
  have hbegin : NoCommand (Closing.begin f e s).s := by
    unfold NoCommand
    rw [Closing.begin_cmd]
    exact h
  refine ⟨_, _, ?_, hfilter ▸ (endItems_nodup e).filter _, ?_, List.mem_filter.2 ⟨hr, by decide⟩⟩
  · rw [Closing.worked, Closing.meet_uncommanded hbegin, hfilter]
  · rw [← hfilter]
    simp

/-! ### The notices where nothing is raised -/

/-- The frame end raises no notice; an item may be left to deliver. -/
structure Closing.Silent (w : Closing) : Prop where
  number : w.frame.jumps w.outcome = false
  expiry : w.expired = []

theorem Closing.Silent.of_same {v : Closing} (h : w.Silent) (hs : w.SameElsewhere v) : v.Silent := by
  obtain ⟨hframe, hout, hx, -⟩ := hs.closing
  exact ⟨by rw [hframe, hout]; exact h.number, hx.trans h.expiry⟩

theorem begin_silent (e : FrameClose) (h : NothingRaised s f) : (Closing.begin f e s).Silent :=
  ⟨by simp [FrameInFlight.jumps, h.number], begin_expired_nil f e h.outputs⟩

/-- Of the works but the delivery and the command the resend step alone reaches the notices. -/
theorem Closing.Silent.item_notices (h : w.Silent) {i : EndItem} (hc : i ≠ .command) (hd : i ≠ .delivery) :
    (w.item i).s.notices = if i = .resend then { w.s.notices with records := Resent w.s.notices.records }
      else w.s.notices := by
  cases i with
  | command => exact absurd rfl hc
  | delivery => exact absurd rfl hd
  | resend => rfl
  | jumpRaise => rw [Closing.item, Closing.jumpRaise_quiet h.number]; rfl
  | expiryRaise => rw [Closing.item, Closing.expiryRaise_quiet h.expiry]; rfl
  | copyCompletion =>
    show w.copyCompletion.s.notices = _
    unfold Closing.copyCompletion
    split <;> rfl

theorem Closing.Silent.meet_notices (h : w.Silent) (hc : EndItem.command ∉ items) (hd : EndItem.delivery ∉ items)
    (hn : items.Nodup) : (w.meet items).s.notices = if EndItem.resend ∈ items then
      { w.s.notices with records := Resent w.s.notices.records } else w.s.notices := by
  unfold Closing.meet
  induction items generalizing w with
  | nil => rfl
  | cons i rest ih =>
    obtain ⟨hci, hcrest⟩ := List.ne_and_not_mem_of_not_mem_cons hc
    obtain ⟨hdi, hdrest⟩ := List.ne_and_not_mem_of_not_mem_cons hd
    obtain ⟨hi, hrest⟩ := List.nodup_cons.1 hn
    rw [List.foldl_cons, ih (h.of_same (w.item_same i)) hcrest hdrest hrest, h.item_notices hci.symm hdi.symm]
    by_cases hr : i = .resend
    · subst hr
      simp [hi]
    · simp [hr, Ne.symm hr]

theorem Closing.delivery_notices {k : NoticeKind} (h : w.s.arb.item = .notice k) : w.delivery.s.notices
    = w.s.notices.settle w.outcome.delivers w.s.cmd.params.noticeResend k := by
  unfold Closing.delivery State.settleItem
  rw [h]

/-- The written notice is settled after the resend step, and no other work reaches the notices (R120, R126, R127). -/
theorem NoCommand.worked_notices (h : NoCommand s) (hn : NothingRaised s f) {k : NoticeKind}
    (hi : s.arb.item = .notice k) : (Closing.worked f e s).s.notices
      = NoticeQueue.settle { s.notices with records := Resent s.notices.records } (f.outcome e.check).delivers
          s.cmd.params.noticeResend k := by
  obtain ⟨before, after, hw, hnodup, hc, hr⟩ := h.worked_order f e
  obtain ⟨hnb, hna, hdisjoint⟩ := List.nodup_append.1 hnodup
  obtain ⟨hda, hna⟩ := List.nodup_cons.1 hna
  have hcb : EndItem.command ∉ before := fun hm => hc (List.mem_append_left _ hm)
  have hca : EndItem.command ∉ after := fun hm => hc (List.mem_append_right _ (List.mem_cons_of_mem _ hm))
  have hdb : EndItem.delivery ∉ before := fun hm => hdisjoint _ hm _ (List.mem_cons_self ..) rfl
  have hra : EndItem.resend ∉ after := fun hm => hdisjoint _ hr _ (List.mem_cons_of_mem _ hm) rfl
  have hbegin := begin_silent e hn
  have hmet := (Closing.begin f e s).meet_same before
  have hsilent := (hbegin.of_same hmet).of_same (Closing.delivery_same _)
  obtain ⟨x, hcmd⟩ := (Closing.begin f e s).meet_cmd hcb
  obtain ⟨harb, -⟩ := (Closing.begin f e s).meet_undelivered hdb
  obtain ⟨-, hout, -⟩ := hmet.closing
  rw [hw, Closing.meet_append]
  show (Closing.meet (Closing.delivery _) after).s.notices = _
  rw [hsilent.meet_notices hca hda hna, if_neg hra, Closing.delivery_notices (by rw [harb, Closing.begin_item, hi]),
    hbegin.meet_notices hcb hdb hnb, if_pos hr, hout, hcmd, Closing.begin_outcome, Closing.begin_notices,
    Closing.begin_cmd]

/-- At a calm frame end that raises nothing the resend step alone reaches the notices (R127). -/
theorem NoCommand.calm_notices (h : NoCommand s) (e : FrameClose) (hc : Calm s) (hn : NothingRaised s f) :
    (closeFrame f e s).s.notices = { s.notices with records := Resent s.notices.records, pendingDrops := 0 } := by
  obtain ⟨hmet, hnotices⟩ := beforeCommand_calm e hc hn
  rw [(h.closeFrame_notices hc.gate).2 (hc.not_triggers f)]
  show { (Closing.worked f e s).s.notices with pendingDrops := 0 } = _
  rw [worked_calm_notices e (by rw [h.command_eq]; exact hmet), h.command_eq, hnotices]

end

end Sys2Proof.Machine
end

section
/-! PROOFS. The courtesy gap (O22), the resend countdowns (O24) and the delivery of the item written (O25), at a frame
end without a command (R119, R120, R126, R127). -/

namespace Sys2Proof.Machine

/-! ### The courtesy gap (R119) -/

/-- The countdown runs out where nothing was written and it stood at 1. -/
theorem closeFrame_gapRanOut (f : FrameInFlight) (e : FrameClose) (s : State) :
    (closeFrame f e s).gapRanOut = (s.arb.item == .none && s.arb.gap == 1) := by
  have hbegin : (Closing.begin f e s).gapRanOut = (s.arb.item == .none && s.arb.gap == 1) := by
    unfold Closing.begin Closing.schedule
    split <;> rfl
  obtain ⟨-, -, -, hgap, -⟩ := (Closing.worked_same f e s).closing
  obtain ⟨l, o, n, hb⟩ := (Closing.settled f e s).beforeCapture_eq
  show (Closing.settled f e s).beforeCapture.gapRanOut = _
  rw [hb]
  exact hgap.trans hbegin

theorem exec_courtesyGapRunsOut_eq {s : State} {f : FrameInFlight} (e : FrameClose) (h : AtEnd s f) :
    exec (.courtesyGapRunsOut e) s =
      .next (if s.arb.item = .none ∧ s.arb.gap = 1 then (closeFrame f e s).s else s) := by
  show happens s (atFrameEnd Closing.gapRanOut e s) = _
  rw [happens_up h.up, atFrameEnd_eq h.flight h.last, closeFrame_gapRanOut]
  simp

/-- Settles O22: the gap is every frame end's own work, and the row is the frame end at which it runs out. -/
theorem courtesyGapCountsDown : Obligations.CourtesyGapCountsDown := by
  unfold Obligations.CourtesyGapCountsDown
  intro s f e hend hno
  have hexec := exec_courtesyGapRunsOut_eq e hend
  obtain ⟨-, -, -, -, -, -, -, -, -, -, -, hbegin, -⟩ := Closing.begin_state f e s
  have harb : (closeFrame f e s).s.arb =
      { gap := if s.arb.item == .none then s.arb.gap - 1 else s.cmd.params.courtesyGap, item := .none, written := false
        denied := false, sentResponse := false } := by
    rw [hno.closeFrame_counted, countedState_arbiter, hbegin]
  refine ⟨_, exec_frameEnd_eq e hend, fun hi => ?_, fun hi => ?_, by rw [harb], by rw [harb], by rw [harb],
    by rw [harb], fun hone => ⟨by rw [hexec, if_pos hone], ?_⟩, fun hnot => by rw [hexec, if_neg hnot]⟩
  · simp [harb, hi]
  · simp [harb, hi]
  · obtain ⟨hi, hg⟩ := hone
    simp [harb, hi, hg]

/-! ### The resend countdowns (R127) -/

section
variable {s : State} {f : FrameInFlight} {e : FrameClose} {w : Closing} {items : List EndItem}

theorem NoticeRecord.runsOut_iff {r : NoticeRecord} : r.runsOut = true ↔ ∃ n, r.state = .awaiting n ∧ n ≤ 1 := by
  unfold NoticeRecord.runsOut
  split <;> simp [*]

/-- The kinds whose records a resend step of the queue makes QUEUED again. -/
def NoticeQueue.runOut (q : NoticeQueue) : List NoticeKind :=
  (q.records.filter NoticeRecord.runsOut).map NoticeRecord.kind

theorem NoticeQueue.mem_runOut {q : NoticeQueue} {k : NoticeKind} :
    k ∈ q.runOut ↔ ∃ r ∈ q.records, r.kind = k ∧ ∃ n, r.state = .awaiting n ∧ n ≤ 1 := by
  simp only [NoticeQueue.runOut, List.mem_map, List.mem_filter, NoticeRecord.runsOut_iff]
  exact ⟨fun ⟨r, ⟨hr, hn⟩, hk⟩ => ⟨r, hr, hk, hn⟩, fun ⟨r, hr, hk, hn⟩ => ⟨r, ⟨hr, hn⟩, hk⟩⟩

theorem Closing.item_resent (w : Closing) {i : EndItem} (hc : i ≠ .command) :
    (w.item i).resent = if i = .resend then w.s.notices.runOut else w.resent := by
  cases i with
  | command => exact absurd rfl hc
  | resend | delivery => rfl
  | jumpRaise =>
    show w.jumpRaise.resent = _
    unfold Closing.jumpRaise
    split <;> rfl
  | expiryRaise =>
    show w.expiryRaise.resent = _
    unfold Closing.expiryRaise
    split <;> rfl
  | copyCompletion =>
    show w.copyCompletion.resent = _
    unfold Closing.copyCompletion
    split <;> rfl

/-- Where nothing is raised or delivered, the resend step finds the records as they stood before the works. -/
theorem Closing.Unraised.meet_resent (h : w.Unraised) (hc : EndItem.command ∉ items) (hn : items.Nodup) :
    (w.meet items).resent = if EndItem.resend ∈ items then w.s.notices.runOut else w.resent := by
  unfold Closing.meet
  induction items generalizing w with
  | nil => rfl
  | cons i rest ih =>
    obtain ⟨hne, hrest⟩ := List.ne_and_not_mem_of_not_mem_cons hc
    obtain ⟨hi, hn'⟩ := List.nodup_cons.1 hn
    obtain ⟨hv, -⟩ := h.item_seqCounter hne.symm
    rw [List.foldl_cons, ih hv hrest hn', h.item_notices hne.symm, w.item_resent hne.symm]
    by_cases hr : i = .resend
    · subst hr
      simp [hi]
    · simp [hr, Ne.symm hr]

theorem NoCommand.closeFrame_resent (h : NoCommand s) (e : FrameClose) (hc : Calm s) (hn : NothingRaised s f) :
    (closeFrame f e s).resent = s.notices.runOut := by
  obtain ⟨before, after, hw, hnodup, hcommand, hr⟩ := h.worked_order f e
  obtain ⟨l, o, n, hb⟩ := (Closing.settled f e s).beforeCapture_eq
  have hcounted : (closeFrame f e s).resent = (Closing.worked f e s).resent := by
    show (Closing.settled f e s).beforeCapture.resent = _
    rw [hb]
    rfl
  rw [hcounted, hw, (begin_unraised e hc hn).meet_resent hcommand hnodup, if_pos (List.mem_append_left _ hr),
    Closing.begin_notices]

/-- The row of a resend is the frame end at which a record of the kind is QUEUED again (assumptions 2, 3). -/
theorem exec_noticeResend_eq (k : NoticeKind) (e : FrameClose) (hend : AtEnd s f) (h : NoCommand s) (hc : Calm s)
    (hn : NothingRaised s f) :
    exec (.noticeResend k e) s = .next (if k ∈ s.notices.runOut then (closeFrame f e s).s else s) := by
  show happens s (atFrameEnd (fun w => w.resent.contains k) e s) = _
  rw [happens_up hend.up, atFrameEnd_eq hend.flight hend.last]
  simp only [h.closeFrame_resent e hc hn, List.contains_iff_mem]

end

/-- Settles O24: the resend step alone reaches the notices there, and the row asks for a record that runs out. -/
theorem noticesAreSentAgain : Obligations.NoticesAreSentAgain := by
  unfold Obligations.NoticesAreSentAgain
  intro s f e hend hcalm hno hn
  refine ⟨_, exec_frameEnd_eq e hend, hno.calm_notices e hcalm hn, fun r hr hs => ?_, fun k hk => ?_⟩
  · rw [exec_noticeResend_eq _ e hend hno hcalm hn, if_pos (NoticeQueue.mem_runOut.2 ⟨r, hr, rfl, 1, hs, le_rfl⟩)]
  · rw [exec_noticeResend_eq _ e hend hno hcalm hn, if_neg fun hm => ?_]
    obtain ⟨r, hr, hkind, n, hs, hle⟩ := NoticeQueue.mem_runOut.1 hm
    have hge := hk r hr hkind n hs
    omega

/-! ### The delivery of the item written (R120, R126) -/

section
variable {s : State} {f : FrameInFlight} {e : FrameClose}

/-- The response written is SENT where it is delivered, and stays UNSENT otherwise (R120). -/
theorem NoCommand.closeFrame_written (h : NoCommand s) {a : Answer} (hi : s.arb.item = .response)
    (hr : s.cmd.response = .unsent a) : (closeFrame f e s).s.cmd.response =
      if (f.outcome e.check).delivers = true then .sent a else .unsent a := by
  have htaking : (Closing.beforeCommand f e s).command.taking = .nothing := by
    rw [← Machine.settled_taking, h.settled_taking]
  obtain ⟨before, after, hw, -, hc, -⟩ := h.worked_order f e
  rw [closeFrame_unexecuted htaking, hw,
    Closing.meet_written (w := Closing.begin f e s) hc (by simpa using hi) (by simpa using hr)]
  simp

/-- A QUEUED record stands through the resend step. -/
theorem resent_getElem? {records : List NoticeRecord} {n : Nat} {r : NoticeRecord} {renewed : Bool}
    (h : records[n]? = some r) (hs : r.state = .queued renewed) : (Resent records)[n]? = some r := by
  rw [Resent, List.getElem?_map, h, Option.map_some, hs]

theorem resent_kinds (records : List NoticeRecord) :
    (Resent records).map NoticeRecord.kind = records.map NoticeRecord.kind := by
  show (records.map NoticeRecord.countDown).map NoticeRecord.kind = _
  rw [List.map_map]
  exact List.map_congr_left fun r _ => NoticeRecord.kind_countDown r

/-- Where no two records are of one kind, the settled record is the one of the kind written, at its place (R126). -/
theorem NoticeQueue.settle_getElem? {q : NoticeQueue} {n : Nat} {r : NoticeRecord}
    (hn : (q.records.map NoticeRecord.kind).Nodup) (h : q.records[n]? = some r) (delivered : Bool) (resend : Nat) :
    (q.settle delivered resend r.kind).records[n]? = some (r.settle delivered resend q.seqCounter)
      ∧ (q.settle delivered resend r.kind).seqCounter
        = if delivered && r.state == .queued true then q.seqCounter + 1 else q.seqCounter := by
  obtain ⟨hlt, hget⟩ := List.getElem?_eq_some_iff.1 h
  have hsplit : q.records = q.records.take n ++ r :: q.records.drop (n + 1) := by rw [← hget]; simp
  have hbefore : ∀ x ∈ q.records.take n, x.kind ≠ r.kind := by
    intro x hx hk
    rw [hsplit, List.map_append, List.nodup_append] at hn
    obtain ⟨-, -, hd⟩ := hn
    exact hd _ (List.mem_map_of_mem hx) _ (List.mem_cons_self ..) hk
  constructor
  · show (modifyFirst _ _ q.records)[n]? = _
    conv_lhs => rw [hsplit]
    rw [modifyFirst_append _ _ _ (by simpa using hbefore) (by simp),
      List.getElem?_append_right (by simp), List.length_take_of_le hlt.le, Nat.sub_self]
    rfl
  · show (if delivered && q.renewed r.kind then _ else _) = _
    rw [NoticeQueue.renewed, NoticeQueue.find?_first hsplit rfl hbefore]

/-- The written notice at its place, and the next sequence, as its frame end leaves them (R120, R126). -/
theorem NoCommand.closeFrame_settled (h : NoCommand s) (hn : NothingRaised s f) (hd : NoticesDistinct s)
    (hgate : s.counters.gate = false) (hsched : s.snaps.scheduled = none) (hmark : s.snaps.syncLossMark = false)
    {n : Nat} {r : NoticeRecord} {renewed : Bool} (hi : s.arb.item = .notice r.kind)
    (hr : s.notices.records[n]? = some r) (hs : r.state = .queued renewed) :
    (closeFrame f e s).s.notices.records[n]?
        = some (r.settle (f.outcome e.check).delivers s.cmd.params.noticeResend s.notices.seqCounter)
      ∧ (closeFrame f e s).s.notices.seqCounter
        = if (f.outcome e.check).delivers && renewed then s.notices.seqCounter + 1 else s.notices.seqCounter := by
  have hquiet : ¬Triggers s f := by simp [Triggers, hsched, hmark]
  have hsettle := NoticeQueue.settle_getElem? (q := { s.notices with records := Resent s.notices.records })
    ((resent_kinds s.notices.records).symm ▸ hd.kinds) (resent_getElem? hr hs) (f.outcome e.check).delivers
    s.cmd.params.noticeResend
  rw [← h.worked_notices hn hi, hs] at hsettle
  have hrenewed : (NoticeState.queued renewed == NoticeState.queued true) = renewed := by cases renewed <;> decide
  rw [hrenewed] at hsettle
  rw [(h.closeFrame_notices hgate).2 hquiet]
  exact hsettle

end

/-- Settles O25: by whether the outcome delivers, the item written is settled and nothing else reaches it. -/
theorem deliveryFollowsTheOutcome : Obligations.DeliveryFollowsTheOutcome := by
  unfold Obligations.DeliveryFollowsTheOutcome
  intro s f e hend hno
  have damaged : f.regenerated = false → e.check ≠ crcValue f.rxCrc → (f.outcome e.check).delivers = false :=
    fun hf hc => by rw [outcome_damaged_iff.2 ⟨hf, hc⟩]; rfl
  refine ⟨_, exec_frameEnd_eq e hend, fun a hi hr => ?_, fun k n r renewed hi hd hn hgate hsched hmark hr hk hs => ?_⟩
  · rw [hno.closeFrame_written hi hr]
    exact ⟨fun hok => by rw [outcome_delivers_iff.2 hok]; rfl, fun hf hc => by rw [damaged hf hc]; rfl⟩
  · subst hk
    obtain ⟨hrecord, hseq⟩ := hno.closeFrame_settled (e := e) hn hd hgate hsched hmark hi hr hs
    rw [hrecord, hseq, NoticeRecord.settle, hs]
    refine ⟨fun hok => ?_, fun hf hc => ?_⟩
    · rw [outcome_delivers_iff.2 hok]
      exact ⟨rfl, rfl⟩
    · rw [damaged hf hc]
      exact ⟨rfl, rfl⟩

end Sys2Proof.Machine
end

section
/-! PROOFS. ACKNOWLEDGE NOTICE (O47): its checks on the notices after the resend step, and the record that it removes
(R127, R128, R131). -/

namespace Sys2Proof.Machine

section
variable {r : Request} {t : State}

/-! ### The checks (R128) -/

theorem checkAcknowledge_unfit (h : r.count ≠ 1 ∨ 255 < r.p0.toNat) (t : State) :
    checkAcknowledge r t = some (.badParameter, []) := by
  by_cases h1 : r.count = 1
  · have hgt : ¬r.p0.toNat ≤ 255 := Nat.not_le.2 (h.resolve_left fun hne => hne h1)
    simp [checkAcknowledge, require, h1, hgt]
  · simp [checkAcknowledge, require, h1]

theorem checkAcknowledge_fit (h1 : r.count = 1) (hle : r.p0.toNat ≤ 255) : checkAcknowledge r t =
    if t.notices.records.any (NoticeRecord.acknowledgedBy (ackSequence r)) then none else some (.staleAck, []) := by
  simp [checkAcknowledge, require, h1, hle]

/-- An acknowledgement names the AWAITING records with the sequence of its parameter word (R128). -/
theorem acknowledgedBy_iff (hle : r.p0.toNat ≤ 255) {x : NoticeRecord} :
    x.acknowledgedBy (ackSequence r) = true ↔ x.isAwaiting = true ∧ x.seq.toNat = r.p0.toNat := by
  have hseq : (ackSequence r).toNat = r.p0.toNat := by
    simp only [ackSequence, BitVec.extractLsb'_toNat, Nat.shiftRight_zero]
    omega
  rw [NoticeRecord.acknowledgedBy, Bool.and_eq_true, beq_iff_eq, ← BitVec.toNat_inj, hseq]

end

/-! ### The frame end that takes it -/

section
variable {s : State} {f : FrameInFlight} {e : FrameClose} {r : Request}

/-- Refused, it leaves the notices to the resend step (R102, R127). -/
theorem acknowledge_refused (h : Executes s f e r .acknowledgeNotice) (hcalm : Calm s) (hn : NothingRaised s f)
    {st : Status} {data : List Word} (hc : checkAcknowledge r (metByCommand s f e) = some (st, data)) :
    Answered (closeFrame f e s).s r st data
      ∧ (closeFrame f e s).s.notices = { s.notices with records := Resent s.notices.records, pendingDrops := 0 } := by
  obtain ⟨hanswer, hsame⟩ := closeFrame_refused_unicast h.toAtGoodEnd h.held h.unicast h.unseen
    (.inr ⟨.acknowledgeNotice, h.name, hc⟩)
  obtain ⟨-, -, hnotices⟩ := hsame.calm hcalm
  have hwithout : NothingRaised s.withoutCommand f := ⟨hn.number, hn.outputs⟩
  exact ⟨hanswer, hnotices.trans (s.withoutCommand_noCommand.calm_notices e hcalm.withoutCommand hwithout)⟩

/-- Accepted, it acts on the notices after the resend step, and nothing reaches them after it (R128, R131). -/
theorem acknowledge_accepted (h : Executes s f e r .acknowledgeNotice) (hcalm : Calm s) (hn : NothingRaised s f)
    (hc : checkAcknowledge r (metByCommand s f e) = none) : Answered (closeFrame f e s).s r .ok []
      ∧ (closeFrame f e s).s.notices = { s.notices with
          records := (Resent s.notices.records).eraseP (NoticeRecord.acknowledgedBy (ackSequence r))
          dropped := 0, pendingDrops := 0 } := by
  obtain ⟨hquiet, hmet⟩ := beforeCommand_calm e hcalm hn
  obtain ⟨k, hclose⟩ := Carries.closeFrame_accepted (.inl h) h.not_broadcast hc
  obtain ⟨x, hx⟩ := (countedState f e s).answer_eq r (okAnswer .acknowledgeNotice r [])
  have htaking := h.taking hc
  have hcommand := Carries.command_eq (.inl h) h.not_broadcast hc
  have hunraised : (Closing.beforeCommand f e s).command.Unraised := by
    refine hquiet.of_same (Closing.command_same _) ?_
    rw [hcommand]
    rfl
  obtain ⟨-, -, hcounted⟩ := countedState_calm (f := f) (e := e) hcalm (by rw [htaking]; rfl)
  rw [Closing.beforeCapture_stands htaking (by decide)] at hcounted
  refine ⟨?_, ?_⟩
  · rw [Answered, hclose]
    exact State.answer_response _ (.inl h.unicast) _
  · rw [hclose]
    show ((countedState f e s).answer r (okAnswer .acknowledgeNotice r [])).notices = _
    rw [hx]
    show (countedState f e s).notices = _
    rw [hcounted]
    show { (Closing.worked f e s).s.notices with pendingDrops := 0 } = _
    rw [worked_calm_notices e hunraised, hcommand]
    show NoticeQueue.mk ((Closing.beforeCommand f e s).s.notices.records.eraseP _)
      (Closing.beforeCommand f e s).s.notices.seqCounter 0 0 = _
    rw [hmet]

end

/-- Settles O47: a sequence that fits draws STALE_ACK or removes its first AWAITING record, any other BAD_PARAMETER. -/
theorem acknowledgeRemovesOneRecord : Obligations.AcknowledgeRemovesOneRecord := by
  unfold Obligations.AcknowledgeRemovesOneRecord
  intro s f e r h hcalm hn
  obtain ⟨-, hmet⟩ := beforeCommand_calm e hcalm hn
  have hrecords : (metByCommand s f e).notices.records = Resent s.notices.records := congrArg NoticeQueue.records hmet
  refine ⟨_, Carries.exec_eq (.inl h), fun hbad => acknowledge_refused h hcalm hn (checkAcknowledge_unfit hbad _),
    fun h1 hle => ⟨fun before x after hsplit hx hq hbefore => ?_, fun hnone => ?_⟩⟩
  · have hnamed : x.acknowledgedBy (ackSequence r) = true := (acknowledgedBy_iff hle).2 ⟨hx, hq⟩
    have hc : checkAcknowledge r (metByCommand s f e) = none := by
      rw [checkAcknowledge_fit h1 hle, hrecords, hsplit]
      simp [hnamed]
    obtain ⟨hanswer, hnotices⟩ := acknowledge_accepted h hcalm hn hc
    have herase : (before ++ x :: after).eraseP (NoticeRecord.acknowledgedBy (ackSequence r)) = before ++ after := by
      rw [List.eraseP_append_right _ fun y hy => ?_, List.eraseP_cons_of_pos hnamed]
      rw [acknowledgedBy_iff hle]
      exact fun ⟨ha, hs⟩ => hbefore y hy ha hs
    rw [hsplit, herase] at hnotices
    exact ⟨hanswer, hnotices⟩
  · refine acknowledge_refused h hcalm hn ?_
    have hany : (Resent s.notices.records).any (NoticeRecord.acknowledgedBy (ackSequence r)) = false := by
      rw [List.any_eq_false]
      intro y hy
      rw [acknowledgedBy_iff hle]
      exact fun ⟨ha, hs⟩ => hnone y hy ha hs
    rw [checkAcknowledge_fit h1 hle, hrecords, hany]
    rfl

end Sys2Proof.Machine
end

section
/-! SUPPORT. The Snapshot Unit at the end of every frame, whether the gate is RUNNING or STOPPED: the triggers that come
to it, and the capture or the loss that it makes of them (R142, R151, R154 to R158). -/

namespace Sys2Proof.Machine

/-! ### The triggers (R142, R154, R155) -/

/-- A command that meets the other works leaves SNAP_ON_SYNC_LOSS alone: NOTICE_MASK is the one parameter set there. -/
theorem meetCommand_snapOnSyncLoss (n : CommandName) (r : Request) (b : Bool) (s : State) :
    (meetCommand n r b s).cmd.params.snapOnSyncLoss = s.cmd.params.snapOnSyncLoss := by
  by_cases hn : n = .setParameter
  · subst hn
    show (meetParameter r b s).cmd.params.snapOnSyncLoss = _
    unfold meetParameter
    split
    · next h =>
      obtain ⟨hp, -⟩ := h
      rw [doSetParameter_params hp]
      rfl
    · rfl
  · rw [meetCommand_params hn]

section
variable (f : FrameInFlight) (e : FrameClose) (s : State)

theorem settled_snapOnSyncLoss :
    (Closing.settled f e s).s.cmd.params.snapOnSyncLoss = s.cmd.params.snapOnSyncLoss := by
  have hc := (Closing.beforeCommand f e s).command_commanded
  rw [settled_params, ← beforeCommand_params f e s]
  generalize (Closing.beforeCommand f e s).command = v at hc ⊢
  cases hc with
  | marks _ _ | resent => rfl
  | accepted r n q _ => exact meetCommand_snapOnSyncLoss n r _ _

/-- The works of a frame end leave the Snapshot Unit to the test of the schedule (R155). -/
theorem settled_snaps : (Closing.settled f e s).s.snaps =
    if s.snaps.firesAt f.number then { s.snaps with scheduled := none } else s.snaps := by
  obtain ⟨-, hbegin⟩ := Closing.begin_snaps f e s
  exact (Closing.worked_same f e s).snaps.trans hbegin

theorem settled_fired : (Closing.settled f e s).fired = s.snaps.firesAt f.number := by
  obtain ⟨hbegin, -⟩ := Closing.begin_snaps f e s
  obtain ⟨-, -, -, -, hfired, -⟩ := (Closing.worked_same f e s).closing
  exact hfired.trans hbegin

theorem settled_frame : (Closing.settled f e s).frame = f := by
  obtain ⟨hframe, -⟩ := (Closing.worked_same f e s).closing
  exact hframe.trans (Closing.begin_frame f e s)

/-- The triggers that the Snapshot Unit finds at the end of frame `f` (R154). -/
def frameCauses : Causes :=
  { command := (Closing.settled f e s).taking.captures
    scheduled := s.snaps.firesAt f.number
    wrap := (Closing.settled f e s).s.counters.wrapTrigger
    syncLoss := s.snaps.syncLossMark && s.cmd.params.snapOnSyncLoss }

theorem causes_eq_frameCauses :
    (Closing.settled f e s).causes (Closing.settled f e s).s.counters = frameCauses f e s := by
  have hmark : (Closing.settled f e s).s.snaps.syncLossMark = s.snaps.syncLossMark := by
    rw [settled_snaps]
    split <;> rfl
  rw [Closing.causes, frameCauses, hmark, settled_fired, settled_snapOnSyncLoss]

/-! ### The capture and the loss (R151, R156, R157) -/

/-- The record of a capture holds each counter's value and wrap flag (R156). -/
theorem snapshotOf_counter (u : SnapshotUnit) (b : CounterBank) (n : FrameNumber) (c : Causes) (i : CounterIndex) :
    (snapshotOf u b n c).values[i] = b.bank[i].value
      ∧ (snapshotOf u b n c).wrapMask.getLsbD i.val = b.bank[i].wrapFlag := by
  unfold snapshotOf
  exact ⟨by simp, maskOf_getLsbD (fun i => b.bank[i].wrapFlag) i⟩

/-- What the counting leaves in the counters and the Snapshot Unit is its capture step's, on the evaluated counters. -/
theorem countedState_captureStep : ∃ t : State, t.snaps.queue = s.snaps.queue ∧ t.snaps.serial = s.snaps.serial
    ∧ t.snaps.lost = s.snaps.lost ∧ t.counters = (Closing.settled f e s).s.counters.evaluate
    ∧ countedState f e s = t.captureStep f.number (frameCauses f e s) := by
  obtain ⟨l, o, n, hb⟩ := (Closing.settled f e s).beforeCapture_eq
  have hstep : countedState f e s = State.captureStep { (Closing.settled f e s).beforeCapture.s with
      counters := (Closing.settled f e s).s.counters.evaluate } f.number (frameCauses f e s) := by
    rw [countedState, ← causes_eq_frameCauses, hb, Closing.count, settled_frame]
    rfl
  have hsnaps : (Closing.settled f e s).beforeCapture.s.snaps = (Closing.settled f e s).s.snaps := by rw [hb]
  have hunit : (Closing.settled f e s).s.snaps.queue = s.snaps.queue
      ∧ (Closing.settled f e s).s.snaps.serial = s.snaps.serial
      ∧ (Closing.settled f e s).s.snaps.lost = s.snaps.lost := by
    rw [settled_snaps]
    split <;> exact ⟨rfl, rfl, rfl⟩
  rw [← hsnaps] at hunit
  obtain ⟨hqueue, hserial, hlost⟩ := hunit
  exact ⟨{ (Closing.settled f e s).beforeCapture.s with counters := (Closing.settled f e s).s.counters.evaluate },
    hqueue, hserial, hlost, rfl, hstep⟩

variable {f e s}

/-- With a trigger and a place the frame end captures: the record holds the evaluated counters, and clear-on-capture
comes after it (R151, R156). -/
theorem countedState_captured (ht : (frameCauses f e s).any = true) (hq : s.snaps.queue.length < 4) :
    ∃ x, Captured s f e (countedState f e s) x ∧ x.causes = frameCauses f e s := by
  obtain ⟨t, hqueue, hserial, hlost, hcounters, hstep⟩ := countedState_captureStep f e s
  obtain ⟨-, hgate⟩ := settled_counters s f e
  refine ⟨snapshotOf t.snaps t.counters f.number (frameCauses f e s), ?_, rfl⟩
  rcases t.captureStep_cases f.number (frameCauses f e s) with ⟨hn, -⟩ | ⟨-, -, hmade⟩ | ⟨-, hfull, -⟩
  · exact absurd (hn.symm.trans ht) Bool.false_ne_true
  · rw [hstep, hmade]
    simp only [State.makeCapture_snaps, State.makeCapture_counters]
    refine ⟨by rw [hqueue], rfl, ⟨hserial, by rw [hserial]⟩, hlost, ?_, fun i => ?_⟩
    · show t.counters.gate = _
      rw [hcounters, CounterBank.evaluate_gate, hgate]
    · obtain ⟨hvalue, hflag⟩ := snapshotOf_counter t.snaps t.counters f.number (frameCauses f e s) i
      refine ⟨t.counters.bank[i], ?_, hvalue, hflag, t.counters.captured_get i⟩
      rw [hcounters]
      exact evaluated_settled s f e i
  · rw [hqueue] at hfull
    exact absurd hq (Nat.not_lt.2 hfull)

/-- With a trigger and a full queue the capture is lost, and every counter keeps what its evaluation gave it (R151,
R157). -/
theorem countedState_lost (ht : (frameCauses f e s).any = true) (hq : 4 ≤ s.snaps.queue.length) :
    (countedState f e s).snaps.queue = s.snaps.queue ∧ (countedState f e s).snaps.serial = s.snaps.serial
      ∧ (countedState f e s).snaps.lost = min 255 (s.snaps.lost + 1)
      ∧ ∀ i : CounterIndex, Evaluated s f e i (countedState f e s).counters.bank[i] := by
  obtain ⟨t, hqueue, hserial, hlost, hcounters, hstep⟩ := countedState_captureStep f e s
  rcases t.captureStep_cases f.number (frameCauses f e s) with ⟨hn, -⟩ | ⟨-, hroom, -⟩ | ⟨-, -, hloss⟩
  · exact absurd (hn.symm.trans ht) Bool.false_ne_true
  · rw [hqueue] at hroom
    exact absurd hroom (Nat.not_lt.2 hq)
  · rw [hstep, hloss]
    simp only [State.loseCapture_snaps, State.loseCapture_counters, hlost, hcounters]
    exact ⟨hqueue, hserial, trivial, evaluated_settled s f e⟩

/-- No command acts on a counter before the counting is done, so each stands as evaluated, or cleared by a capture. -/
theorem countedState_left (i : CounterIndex) : LeftByFrameEnd s f e i (countedState f e s).counters.bank[i] := by
  obtain ⟨-, hcounted⟩ := countedState_counter s f e i
  exact ⟨_, evaluated_settled s f e i, hcounted⟩

/-- The schedule after the counting: IDLE where it fires, and as it stood otherwise (R155). -/
theorem countedState_scheduled : (countedState f e s).snaps.scheduled =
    if s.snaps.firesAt f.number then none else s.snaps.scheduled := by
  obtain ⟨-, -, -, -, -, -, -, -, -, -, -, hkept, -⟩ := Closing.count_state (Closing.settled f e s).beforeCapture
  obtain ⟨l, o, n, hb⟩ := (Closing.settled f e s).beforeCapture_eq
  have hbefore : (Closing.settled f e s).beforeCapture.s.snaps = (Closing.settled f e s).s.snaps := by rw [hb]
  rw [countedState, hkept, hbefore, settled_snaps]
  split <;> rfl

/-! ### The command beside the capture -/

/-- TAKE SNAPSHOT alone is a COMMAND trigger (R154, R159). -/
theorem settled_captures_eq (h : ∀ r, s.cmd.inFlight = some r → r.cls ≠ .none → r.name ≠ some .takeSnapshot) :
    (Closing.settled f e s).taking.captures = false := by
  unfold Taking.captures
  split
  · next r ht =>
    obtain ⟨hheld, -, hcls, hname, -⟩ := accepts_of_settled ht
    exact absurd hname (h r hheld hcls)
  · rfl

theorem CommandElsewhere.captures_eq (h : CommandElsewhere s) : (Closing.settled f e s).taking.captures = false :=
  settled_captures_eq fun r hheld hcls hname => h r hheld hcls (by simp [hname])

/-- A command that acts elsewhere leaves the counters and the snapshots as they are counted. -/
theorem CommandElsewhere.closeFrame_counted (h : CommandElsewhere s) :
    (closeFrame f e s).s.counters = (countedState f e s).counters
      ∧ (closeFrame f e s).s.snaps = (countedState f e s).snaps := by
  obtain ⟨u, x, hrun, hu⟩ := Taking.run_eq (Closing.settled f e s).taking (Closing.settled f e s).capture
    (countedState f e s)
  rw [closeFrame_eq_run, hrun]
  rcases hu with rfl | ⟨r, n, ht, hr⟩
  · exact ⟨rfl, rfl⟩
  · obtain ⟨hheld, -, hcls, hname, -⟩ := accepts_of_settled ht
    have helse := h r hheld hcls
    rw [hname] at helse
    cases hr with
    | counters _ own _ | snaps _ own _ =>
      exact absurd (List.Sublist.subset (by decide) (List.mem_map_of_mem (f := some) own)) helse
    | reset => exact absurd (by decide) helse
    | reads _ _ | address _ | parameter _ _ _ | map _ _ _ => exact ⟨rfl, rfl⟩

/-- A capture is seen in the counters and the snapshots alone. -/
theorem Captured.of_same {t u : State} {x : SnapshotRecord} (h : Captured s f e t x) (hc : u.counters = t.counters)
    (hs : u.snaps = t.snaps) : Captured s f e u x := by
  obtain ⟨hqueue, hE, ⟨hserial, hnext⟩, hlost, hgate, hcounters⟩ := h
  rw [← hs] at hqueue hnext hlost
  rw [← hc] at hcounters
  exact ⟨hqueue, hE, ⟨hserial, hnext⟩, hlost, hgate, hcounters⟩

end

end Sys2Proof.Machine
end

section
/-! PROOFS. COUNTER_WRAP (O27): the evaluation that carries a counter past 2^40 - 1, and the capture that it triggers
(R142, R151, R154, R156). -/

namespace Sys2Proof.Machine

section
variable {s : State} {f : FrameInFlight} {e : FrameClose} {i : CounterIndex}

/-! ### The counters that wrap (R140, R142) -/

/-- A counter that is evaluated wraps where what its frame adds carries its value past 2^40 - 1. -/
theorem settled_wrapsAt {a inc : Nat} (hf : EventsFresh s) (hg : s.counters.gate = true)
    (he : s.counters.bank[i].control.enable = true) (ha : AmountIs s f e s.counters.bank[i].control a)
    (hinc : Adds s.counters.bank[i].control s.counters.bank[i].previous a inc)
    (hpast : 2 ^ 40 ≤ s.counters.bank[i].value.toNat + inc) :
    (Closing.settled f e s).s.counters.wrapsAt i = true := by
  obtain ⟨hbank, hgate⟩ := settled_counters s f e
  rw [CounterBank.wrapsAt, CounterBank.evaluates, hbank, hgate, hg, he, ← amount_eq hf ha]
  rw [Adds.eq_increment hinc] at hpast
  simpa [Counter.wraps] using hpast

/-- One that is not evaluated does not wrap. -/
theorem settled_wrapsAt_idle (h : s.counters.gate = false ∨ s.counters.bank[i].control.enable = false) :
    (Closing.settled f e s).s.counters.wrapsAt i = false := by
  obtain ⟨hbank, hgate⟩ := settled_counters s f e
  rw [CounterBank.wrapsAt, CounterBank.evaluates, hbank, hgate]
  rcases h with h | h <;> rw [h]
  · rfl
  · rw [Bool.and_false, Bool.false_and]

theorem closeFrame_wrapped (f : FrameInFlight) (e : FrameClose) (s : State) (i : CounterIndex) :
    (closeFrame f e s).wrapped.contains i = (Closing.settled f e s).s.counters.wrapsAt i := by
  obtain ⟨l, o, n, hb⟩ := (Closing.settled f e s).beforeCapture_eq
  have hlist : (closeFrame f e s).wrapped
      = (List.finRange 16).filter fun j => (Closing.settled f e s).beforeCapture.s.counters.wrapsAt j := rfl
  rw [hlist, hb, Bool.eq_iff_iff, List.contains_iff_mem]
  simp

/-- The row of a wrap is the frame end whose evaluation wraps the counter, and nothing elsewhere (assumptions 2, 3). -/
theorem exec_counterWrap_eq (i : CounterIndex) (e : FrameClose) (h : AtEnd s f) : exec (.counterWrap i e) s =
    .next (if (Closing.settled f e s).s.counters.wrapsAt i then (closeFrame f e s).s else s) := by
  show happens s (atFrameEnd (fun w => w.wrapped.contains i) e s) = _
  rw [happens_up h.up, atFrameEnd_eq h.flight h.last, closeFrame_wrapped]

/-! ### The WRAP trigger (R142, R154) -/

/-- A counter with snapshot-on-wrap that wraps is a WRAP trigger. -/
theorem frameCauses_wrap (hw : (Closing.settled f e s).s.counters.wrapsAt i = true)
    (hsnap : s.counters.bank[i].control.snapOnWrap = true) : (frameCauses f e s).wrap = true := by
  obtain ⟨hbank, -⟩ := settled_counters s f e
  refine List.any_eq_true.2 ⟨i, List.mem_finRange i, ?_⟩
  rw [hw, hbank, hsnap]
  rfl

theorem frameCauses_any_of_wrap (h : (frameCauses f e s).wrap = true) : (frameCauses f e s).any = true := by
  simp [Causes.any, h]

/-- The frame end captures for the wrap, the wrapped value and the wrap flag in the record, whatever its command does
elsewhere (R142, R156). -/
theorem captured_of_wrap (helse : CommandElsewhere s) (hw : (Closing.settled f e s).s.counters.wrapsAt i = true)
    (hsnap : s.counters.bank[i].control.snapOnWrap = true) (hq : s.snaps.queue.length < 4) :
    ∃ x, Captured s f e (closeFrame f e s).s x ∧ x.causes.wrap = true ∧ x.causes.command = false := by
  have hwrap := frameCauses_wrap hw hsnap
  obtain ⟨hcounters, hsnaps⟩ := helse.closeFrame_counted (f := f) (e := e)
  obtain ⟨x, hx, hcauses⟩ := countedState_captured (frameCauses_any_of_wrap hwrap) hq
  refine ⟨x, hx.of_same hcounters hsnaps, ?_, ?_⟩ <;> rw [hcauses]
  · exact hwrap
  · exact helse.captures_eq

end

/-- Settles O27: the amounts that the manual gives make the counter wrap, and the wrap is a trigger of the frame end. -/
theorem counterWrapsAndTriggers : Obligations.CounterWrapsAndTriggers := by
  unfold Obligations.CounterWrapsAndTriggers
  intro s f e i hend helse
  have hrow := exec_counterWrap_eq i e hend
  refine ⟨fun a inc hf hg he ha hinc hpast => ?_, fun hidle => ?_⟩
  · have hw := settled_wrapsAt hf hg he ha hinc hpast
    obtain ⟨hcounters, -⟩ := helse.closeFrame_counted (f := f) (e := e)
    obtain ⟨x, hx, hleft⟩ := countedState_left (s := s) (f := f) (e := e) i
    rw [← hcounters] at hleft
    have wrapped : ∀ c, Evaluated s f e i c →
        c.value.toNat = (s.counters.bank[i].value.toNat + inc) % 2 ^ 40 ∧ c.wrapFlag = true := fun c hc => by
      obtain ⟨hvalue, hflag, -⟩ := hc.counts hf hg he a inc ha hinc
      exact ⟨hvalue, hflag.2 (.inr hpast)⟩
    refine ⟨_, hrow.trans (by rw [if_pos hw]), exec_frameEnd_eq e hend, ⟨x, hx, hleft⟩, fun hkeep => ?_,
      fun hsnap hq => ?_⟩
    · have hkept : afterCapture x = x := if_neg (by rw [hx.control, hkeep]; decide)
      rw [hkept, or_self] at hleft
      rw [hleft]
      exact wrapped x hx
    · obtain ⟨r, hr, hwrap, hcommand⟩ := captured_of_wrap helse hw hsnap hq
      obtain ⟨c, hc, hvalue, hmask, -⟩ := hr.counters i
      obtain ⟨hvalue', hflag⟩ := wrapped c hc
      exact ⟨r, hr, hwrap, hcommand, hmask.trans hflag, by rw [hvalue, hvalue']⟩
  · rw [hrow, settled_wrapsAt_idle hidle]
    rfl

end Sys2Proof.Machine
end

section
/-! PROOFS. SCHEDULED_SNAPSHOT_FIRE (O28): the frame end whose number is at or past F, and the capture or the loss there
(R151, R155 to R158). -/

namespace Sys2Proof.Machine

section
variable {s : State} {f : FrameInFlight} {e : FrameClose} {F : FrameNumber}

/-- An armed schedule fires at the end of a frame whose number is at or past its F (R155). -/
theorem firesAt_of_scheduled (hF : s.snaps.scheduled = some F) :
    s.snaps.firesAt f.number = decide ((f.number - F).toNat < 131072) := by
  rw [SnapshotUnit.firesAt, hF]
  rfl

theorem closeFrame_fired (f : FrameInFlight) (e : FrameClose) (s : State) :
    (closeFrame f e s).fired = s.snaps.firesAt f.number := by
  obtain ⟨l, o, n, hb⟩ := (Closing.settled f e s).beforeCapture_eq
  show (Closing.settled f e s).beforeCapture.fired = _
  rw [hb]
  exact settled_fired f e s

/-- The row of the schedule is the frame end at which it fires, and nothing elsewhere (assumptions 2, 3). -/
theorem exec_scheduledSnapshotFire_eq (e : FrameClose) (h : AtEnd s f) : exec (.scheduledSnapshotFire e) s =
    .next (if s.snaps.firesAt f.number then (closeFrame f e s).s else s) := by
  show happens s (atFrameEnd Closing.fired e s) = _
  rw [happens_up h.up, atFrameEnd_eq h.flight h.last, closeFrame_fired]

theorem frameCauses_any_of_fires (h : s.snaps.firesAt f.number = true) : (frameCauses f e s).any = true := by
  simp [Causes.any, frameCauses, h]

end

/-- Settles O28: a schedule that fires is a trigger of the frame end, captured or lost; before its F it stands. -/
theorem scheduledSnapshotFires : Obligations.ScheduledSnapshotFires := by
  unfold Obligations.ScheduledSnapshotFires
  intro s f e F hend helse hF
  have hrow := exec_scheduledSnapshotFire_eq e hend
  have hfires := firesAt_of_scheduled (f := f) hF
  obtain ⟨hcounters, hsnaps⟩ := helse.closeFrame_counted (f := f) (e := e)
  have hscheduled := countedState_scheduled (s := s) (f := f) (e := e)
  rw [← hsnaps] at hscheduled
  refine ⟨fun hpast => ?_, fun hbefore => ?_⟩
  · have hf : s.snaps.firesAt f.number = true := by rw [hfires, decide_eq_true hpast]
    have hany := frameCauses_any_of_fires (e := e) hf
    rw [if_pos hf] at hrow hscheduled
    obtain ⟨-, -, -, -, -, -, -, -, -, -, -, -, hmark⟩ := Closing.count_state (Closing.settled f e s).beforeCapture
    refine ⟨_, hrow, exec_frameEnd_eq e hend, hscheduled, by rw [hsnaps]; exact hmark, fun hq => ?_, fun hq => ?_⟩
    · obtain ⟨x, hx, hcauses⟩ := countedState_captured hany hq
      exact ⟨x, hx.of_same hcounters hsnaps, by rw [hcauses]; exact hf, by rw [hcauses]; exact helse.captures_eq,
        by rw [hcauses]; rfl⟩
    · rw [hsnaps, hcounters]
      exact countedState_lost hany hq
  · have hf : ¬s.snaps.firesAt f.number = true := by
      rw [hfires, decide_eq_true_iff]
      exact Nat.not_lt.2 hbefore
    rw [if_neg hf] at hrow hscheduled
    exact ⟨hrow, _, exec_frameEnd_eq e hend, hscheduled.trans hF⟩

end Sys2Proof.Machine
end

section
/-! SUPPORT. The counter commands by themselves: their checks, and what each does to the bank and answers (R144 to
R150). -/

namespace Sys2Proof.Machine

/-! ### The checks (R102, R144, R146 to R149) -/

theorem require_last (b : Bool) (st : Status) : require b st none = if b = true then none else some (st, []) := rfl

/-- Checks that draw one status are one check. -/
theorem require_and (b : Bool) (st : Status) (p : Prop) [Decidable p] :
    require b st (if p then none else some (st, [])) = if b = true ∧ p then none else some (st, []) := by
  cases b <;> simp [require]

theorem CounterControl.ofBits_isSome {w : Word} :
    (CounterControl.ofBits w).isSome = true ↔ (w.extractLsb' 27 5).toNat ≤ 27 := by
  rw [← Nat.not_lt, ← CounterControl.ofBits_eq_none, Option.isSome_iff_ne_none]

section
variable (r : Request)

theorem checkSetCounter_eq : checkSetCounter r =
    if r.count = 4 ∧ r.p0.toNat ≤ 15 ∧ (r.p1.extractLsb' 27 5).toNat ≤ 27 then none
    else some (.badParameter, []) := by
  simp only [checkSetCounter, require_last, require_and, beq_iff_eq, counterOf_isSome, CounterControl.ofBits_isSome]

theorem checkGetCounterControl_eq : checkGetCounterControl r =
    if r.count = 1 ∧ r.p0.toNat ≤ 15 then none else some (.badParameter, []) := by
  simp only [checkGetCounterControl, require_last, require_and, beq_iff_eq, counterOf_isSome]

/-- A range that ends in the bank begins in it. -/
theorem checkReadCounters_eq : checkReadCounters r =
    if r.count = 2 ∧ (r.p1 = 1 ∨ r.p1 = 2) ∧ r.p0.toNat + r.p1.toNat ≤ 16 then none
    else some (.badParameter, []) := by
  have hindex : r.p0.toNat ≤ 15 ∧ (r.p1 = 1 ∨ r.p1 = 2) ∧ r.p0.toNat + r.p1.toNat ≤ 16
      ↔ (r.p1 = 1 ∨ r.p1 = 2) ∧ r.p0.toNat + r.p1.toNat ≤ 16 := by
    refine and_iff_right_of_imp fun ⟨hcount, hend⟩ => ?_
    have hsome : 1 ≤ r.p1.toNat := by rcases hcount with h | h <;> rw [h] <;> decide
    omega
  simp only [checkReadCounters, require_last, require_and, beq_iff_eq, counterOf_isSome, Bool.or_eq_true,
    decide_eq_true_eq, hindex]

theorem checkClearCounters_eq : checkClearCounters r =
    if r.count = 1 ∧ r.p0.toNat ≤ 65535 then none else some (.badParameter, []) := by
  simp only [checkClearCounters, require_last, require_and, beq_iff_eq, decide_eq_true_eq]

theorem checkGate_eq : checkGate r =
    if r.count = 1 ∧ (r.p0 = 0 ∨ r.p0 = 1) then none else some (.badParameter, []) := by
  simp only [checkGate, require_last, require_and, beq_iff_eq, Bool.or_eq_true]

end

/-! ### What they do (R145 to R150) -/

section
variable {r : Request} {i : CounterIndex}

/-- SET COUNTER replaces one counter by its preset, under its control word, with the flags clear (R145). -/
theorem doSetCounter_eq (hi : r.p0.toNat = i.val) (hsrc : (r.p1.extractLsb' 27 5).toNat ≤ 27) (t : State) :
    ∃ c, c.bits = r.p1.extractLsb' 6 26 ++ 0#6 ∧ doSetCounter r t =
      (t.putCounter i { value := wordsValue r.p2 r.p3, control := c, wrapFlag := false, previous := false }, []) := by
  obtain ⟨c, hc⟩ := Option.isSome_iff_exists.1 (CounterControl.ofBits_isSome.2 hsrc)
  refine ⟨c, CounterControl.bits_of_ofBits hc, ?_⟩
  rw [doSetCounter, counterOf_eq_some.2 hi, hc]

theorem doGetCounterControl_eq (hi : r.p0.toNat = i.val) (t : State) :
    doGetCounterControl r t = (t, t.counters.bank[i].controlWords) := by
  rw [doGetCounterControl, counterOf_eq_some.2 hi]

/-- The bank from counter `i` on. -/
theorem bank_drop (b : Vector Counter 16) (i : CounterIndex) :
    b.toList.drop i.val = b[i] :: b.toList.drop (i.val + 1) := by
  rw [List.drop_eq_getElem_cons (by simp)]
  simp

theorem doReadCounters_one (hi : r.p0.toNat = i.val) (h1 : r.p1 = 1) (t : State) :
    (doReadCounters r t).2 = valueWords t.counters.bank[i].value := by
  rw [doReadCounters, hi, h1, bank_drop]
  rfl

theorem doReadCounters_two {j : CounterIndex} (hi : r.p0.toNat = i.val) (h2 : r.p1 = 2) (hj : j.val = i.val + 1)
    (t : State) :
    (doReadCounters r t).2 = valueWords t.counters.bank[i].value ++ valueWords t.counters.bank[j].value := by
  rw [doReadCounters, hi, h2, bank_drop, ← hj, bank_drop]
  rfl

theorem doClearCounters_get (t : State) : (doClearCounters r t).1.counters.bank[i] =
    if r.p0.getLsbD i.val then t.counters.bank[i].cleared else t.counters.bank[i] := by
  simp [doClearCounters]

/-- A gate that starts is RUNNING; from STOPPED every previous condition is false (R149). -/
theorem CounterBank.start_gate (b : CounterBank) : b.start.gate = true := by
  unfold CounterBank.start
  split
  · assumption
  · rfl

theorem CounterBank.start_get (b : CounterBank) (i : CounterIndex) :
    b.start.bank[i] = if b.gate then b.bank[i] else { b.bank[i] with previous := false } := by
  unfold CounterBank.start
  split <;> simp

/-- The second word of GET COUNTER CONTROL holds the two flags, and no more (R146). -/
theorem flagWord_fields (previous wrapFlag : Bool) :
    (0#30 ++ BitVec.ofBool previous ++ BitVec.ofBool wrapFlag).getLsbD 0 = wrapFlag
      ∧ (0#30 ++ BitVec.ofBool previous ++ BitVec.ofBool wrapFlag).getLsbD 1 = previous
      ∧ (0#30 ++ BitVec.ofBool previous ++ BitVec.ofBool wrapFlag).extractLsb' 2 30 = 0 := by
  revert previous wrapFlag
  decide

/-- Bits 5 to 0 of a control word are zero (R9). -/
theorem CounterControl.bits_low (c : CounterControl) : c.bits.extractLsb' 0 6 = 0 :=
  (extract_lower _ _ _ _ (by decide)).trans (extract_whole _)

end

end Sys2Proof.Machine
end

section
/-! PROOFS. The counter commands at the frame end that takes them: SET COUNTER, CLEAR COUNTERS and GATE (O48), GET
COUNTER CONTROL and READ COUNTERS (O49) (R144 to R150). -/

namespace Sys2Proof.Machine

section
variable {s : State} {f : FrameInFlight} {e : FrameClose} {r : Request} {n : CommandName}

/-! ### The counted bank, accepted and refused -/

theorem countedState_gate (f : FrameInFlight) (e : FrameClose) (s : State) :
    (countedState f e s).counters.gate = s.counters.gate :=
  (countedState_counter s f e 0).1

/-- A calm frame end counts nothing, unless its command captures (R140, R154). -/
theorem Carries.counted_bank (h : Carries s f e r n) (hn : n ≠ .takeSnapshot) (hcalm : Calm s) :
    (countedState f e s).counters.bank = s.counters.bank := by
  obtain ⟨hheld, hname, -⟩ := h.held
  have hcap : (Closing.settled f e s).taking.captures = false := settled_captures_eq fun q hq _ => by
    cases hheld.symm.trans hq
    rw [hname]
    exact fun heq => hn (Option.some.inj heq)
  obtain ⟨hcounters, -⟩ := countedState_calm hcalm hcap
  rw [hcounters]

/-- A command that is accepted acts on the counters as they are counted, and a unicast is answered (R102, R143). -/
theorem Carries.counters_accepted (h : Carries s f e r n) (hn : r.cls = .broadcast → BroadcastName (some n))
    (hc : ∀ t, checkCommand n r t = none) :
    ∃ k, (closeFrame f e s).s.counters = (doCommand n r k (countedState f e s)).1.counters
      ∧ (r.cls = .unicast → (closeFrame f e s).s.cmd.response
          = okAnswer n r (doCommand n r k (countedState f e s)).2) := by
  obtain ⟨k, hu⟩ := h.closeFrame_accepted hn (hc _)
  obtain ⟨x, hx⟩ := (doCommand n r k (countedState f e s)).1.answer_eq r
    (okAnswer n r (doCommand n r k (countedState f e s)).2)
  refine ⟨k, by rw [hu, hx], fun hcls => ?_⟩
  rw [hu, State.answer_response _ (.inl hcls)]

/-- A command that no state lets through leaves the counters as they are counted, and draws its refusal (R57, R102). -/
theorem Carries.counters_refused (h : Carries s f e r n) (hn : r.cls = .broadcast → BroadcastName (some n))
    {st : Status} {data : List Word} (hc : ∀ t, checkCommand n r t = some (st, data)) :
    (closeFrame f e s).s.counters = (countedState f e s).counters
      ∧ AnsweredIfUnicast (closeFrame f e s).s r st data := by
  obtain ⟨hheld, hname, -⟩ := h.held
  obtain ⟨hanswer, -⟩ := h.refused_result hn (hc _)
  have hidle : (Closing.settled f e s).taking.Idle := fun q m ht => by
    obtain ⟨hheld', -, -, hname', t, hpass⟩ := accepts_of_settled ht
    cases hheld.symm.trans hheld'
    cases hname.symm.trans hname'
    cases (hc t).symm.trans hpass
  obtain ⟨x, hx⟩ := Taking.run_idle hidle (Closing.settled f e s).capture (countedState f e s)
  exact ⟨by rw [closeFrame_eq_run, hx], hanswer⟩

theorem LeftByFrameEnd.control {i : CounterIndex} {c : Counter} (h : LeftByFrameEnd s f e i c) :
    c.control = s.counters.bank[i].control := by
  obtain ⟨x, hx, rfl | rfl⟩ := h
  · exact hx.control
  · rw [← hx.control, afterCapture]
    split <;> rfl

/-- What a frame end leaves in a bank that its command does not reach. -/
def BankLeft (s : State) (f : FrameInFlight) (e : FrameClose) (b : Vector Counter 16) : Prop :=
  (∀ j : CounterIndex, LeftByFrameEnd s f e j b[j]) ∧ (Calm s → b = s.counters.bank)

theorem Carries.counted_left (h : Carries s f e r n) (hn : n ≠ .takeSnapshot) :
    BankLeft s f e (countedState f e s).counters.bank :=
  ⟨countedState_left, h.counted_bank hn⟩

/-- A refused counter command leaves the gate, and the bank to the frame end. -/
theorem Carries.bank_refused (h : Carries s f e r n) (hn : r.cls = .broadcast → BroadcastName (some n))
    (hsnap : n ≠ .takeSnapshot) {st : Status} {data : List Word} (hc : ∀ t, checkCommand n r t = some (st, data)) :
    AnsweredIfUnicast (closeFrame f e s).s r st data ∧ (closeFrame f e s).s.counters.gate = s.counters.gate
      ∧ BankLeft s f e (closeFrame f e s).s.counters.bank := by
  obtain ⟨hcounters, hanswer⟩ := h.counters_refused hn hc
  rw [hcounters]
  exact ⟨hanswer, countedState_gate f e s, h.counted_left hsnap⟩

/-! ### SET COUNTER (R144, R145) -/

/-- The counter that a SET COUNTER of control word `c` leaves (R145). -/
def Request.presetCounter (r : Request) (c : CounterControl) : Counter :=
  { value := wordsValue r.p2 r.p3, control := c, wrapFlag := false, previous := false }

/-- A SET COUNTER that fits replaces its counter in the counted bank. -/
theorem setCounter_accepted {i : CounterIndex} (h : Executes s f e r .setCounter) (h4 : r.count = 4)
    (hi : r.p0.toNat = i.val) (hsrc : (r.p1.extractLsb' 27 5).toNat ≤ 27) :
    Answered (closeFrame f e s).s r .ok [] ∧ (closeFrame f e s).s.counters.gate = s.counters.gate
      ∧ ∃ c, c.bits = r.p1.extractLsb' 6 26 ++ 0#6 ∧ ∀ j : CounterIndex, (closeFrame f e s).s.counters.bank[j] =
          if j = i then r.presetCounter c else (countedState f e s).counters.bank[j] := by
  have hfits : r.count = 4 ∧ r.p0.toNat ≤ 15 ∧ (r.p1.extractLsb' 27 5).toNat ≤ 27 := ⟨h4, by omega, hsrc⟩
  obtain ⟨k, hcounters, hanswer⟩ := Carries.counters_accepted (.inl h) h.not_broadcast fun _ =>
    (checkSetCounter_eq r).trans (if_pos hfits)
  obtain ⟨c, hbits, hdo⟩ := doSetCounter_eq hi hsrc (countedState f e s)
  change (closeFrame f e s).s.counters = (doSetCounter r (countedState f e s)).1.counters at hcounters
  change _ → _ = okAnswer .setCounter r (doSetCounter r (countedState f e s)).2 at hanswer
  rw [hdo] at hcounters hanswer
  refine ⟨hanswer h.unicast, ?_, c, hbits, fun j => ?_⟩ <;> rw [hcounters, State.putCounter_counters]
  · exact countedState_gate f e s
  · by_cases hj : j = i
    · simp [hj, Request.presetCounter]
    · have hne : i.val ≠ j.val := fun hv => hj (Fin.ext hv.symm)
      simp [hj, hne]

/-- SET COUNTER leaves the gate alone, and a refused one the bank to the frame end. -/
theorem setCounter_result (h : Executes s f e r .setCounter) :
    (closeFrame f e s).s.counters.gate = s.counters.gate
      ∧ (¬(r.count = 4 ∧ r.p0.toNat ≤ 15 ∧ (r.p1.extractLsb' 27 5).toNat ≤ 27) →
          Answered (closeFrame f e s).s r .badParameter [] ∧ BankLeft s f e (closeFrame f e s).s.counters.bank) := by
  by_cases hfits : r.count = 4 ∧ r.p0.toNat ≤ 15 ∧ (r.p1.extractLsb' 27 5).toNat ≤ 27
  · obtain ⟨h4, hi, hsrc⟩ := hfits
    obtain ⟨-, hgate, -⟩ := setCounter_accepted (i := ⟨r.p0.toNat, by omega⟩) h h4 rfl hsrc
    exact ⟨hgate, fun hbad => absurd ⟨h4, hi, hsrc⟩ hbad⟩
  · obtain ⟨hanswer, hgate, hbank⟩ := Carries.bank_refused (.inl h) h.not_broadcast (by decide) fun _ =>
      (checkSetCounter_eq r).trans (if_neg hfits)
    exact ⟨hgate, fun _ => ⟨hanswer h.unicast, hbank⟩⟩

/-! ### CLEAR COUNTERS (R148) -/

/-- What CLEAR COUNTERS comes to. -/
theorem clearCounters_result (h : Executes s f e r .clearCounters) :
    (closeFrame f e s).s.counters.gate = s.counters.gate
      ∧ (r.count = 1 → r.p0.toNat ≤ 65535 → Answered (closeFrame f e s).s r .ok [] ∧ ∀ i : CounterIndex,
          (closeFrame f e s).s.counters.bank[i] = if r.p0.getLsbD i.val then
            (countedState f e s).counters.bank[i].cleared else (countedState f e s).counters.bank[i])
      ∧ (¬(r.count = 1 ∧ r.p0.toNat ≤ 65535) →
          Answered (closeFrame f e s).s r .badParameter [] ∧ BankLeft s f e (closeFrame f e s).s.counters.bank) := by
  by_cases hfits : r.count = 1 ∧ r.p0.toNat ≤ 65535
  · obtain ⟨k, hcounters, hanswer⟩ := Carries.counters_accepted (.inl h) h.not_broadcast fun _ =>
      (checkClearCounters_eq r).trans (if_pos hfits)
    refine ⟨?_, fun _ _ => ⟨hanswer h.unicast, fun i => ?_⟩, fun hbad => absurd hfits hbad⟩
    · rw [hcounters]
      exact countedState_gate f e s
    · rw [hcounters]
      exact doClearCounters_get (countedState f e s)
  · obtain ⟨hanswer, hgate, hbank⟩ := Carries.bank_refused (.inl h) h.not_broadcast (by decide) fun _ =>
      (checkClearCounters_eq r).trans (if_neg hfits)
    exact ⟨hgate, fun h1 hle => absurd ⟨h1, hle⟩ hfits, fun _ => ⟨hanswer h.unicast, hbank⟩⟩

/-! ### GATE (R149, R150) -/

theorem gate_broadcast (_ : r.cls = .broadcast) : BroadcastName (some .gate) := by simp [BroadcastName]

theorem gate_accepted (h : Carries s f e r .gate) (h1 : r.count = 1) (hp : r.p0 = 0 ∨ r.p0 = 1) :
    AnsweredIfUnicast (closeFrame f e s).s r .ok [] ∧ (closeFrame f e s).s.counters =
      if r.p0 == 1 then (countedState f e s).counters.start else (countedState f e s).counters.stop := by
  obtain ⟨k, hcounters, hanswer⟩ := h.counters_accepted gate_broadcast fun _ =>
    (checkGate_eq r).trans (if_pos ⟨h1, hp⟩)
  exact ⟨hanswer, hcounters⟩

theorem gate_refused (h : Carries s f e r .gate) (hbad : ¬(r.count = 1 ∧ (r.p0 = 0 ∨ r.p0 = 1))) :
    AnsweredIfUnicast (closeFrame f e s).s r .badParameter []
      ∧ (closeFrame f e s).s.counters.gate = s.counters.gate ∧ BankLeft s f e (closeFrame f e s).s.counters.bank :=
  h.bank_refused gate_broadcast (by decide) fun _ => (checkGate_eq r).trans (if_neg hbad)

theorem gateStart_accepted (h : Carries s f e r .gate) (hp : r.p0 = 1) (h1 : r.count = 1) :
    AnsweredIfUnicast (closeFrame f e s).s r .ok [] ∧ (closeFrame f e s).s.counters.gate = true
      ∧ ∀ i : CounterIndex, (closeFrame f e s).s.counters.bank[i] =
          if s.counters.gate then (countedState f e s).counters.bank[i]
          else { (countedState f e s).counters.bank[i] with previous := false } := by
  obtain ⟨hanswer, hcounters⟩ := gate_accepted h h1 (.inr hp)
  rw [hp, beq_self_eq_true, if_pos rfl] at hcounters
  refine ⟨hanswer, ?_, fun i => ?_⟩ <;> rw [hcounters]
  · exact CounterBank.start_gate _
  · rw [CounterBank.start_get, countedState_gate]

theorem gateStop_accepted (h : Carries s f e r .gate) (hp : r.p0 = 0) (h1 : r.count = 1) :
    AnsweredIfUnicast (closeFrame f e s).s r .ok [] ∧ (closeFrame f e s).s.counters.gate = false
      ∧ (closeFrame f e s).s.counters.bank = (countedState f e s).counters.bank := by
  obtain ⟨hanswer, hcounters⟩ := gate_accepted h h1 (.inl hp)
  rw [hp, if_neg (by decide)] at hcounters
  rw [hcounters]
  exact ⟨hanswer, rfl, rfl⟩

/-! ### GET COUNTER CONTROL and READ COUNTERS (R146, R147) -/

theorem getCounterControl_accepted {i : CounterIndex} (h : Executes s f e r .getCounterControl) (h1 : r.count = 1)
    (hi : r.p0.toNat = i.val) :
    Answered (closeFrame f e s).s r .ok (closeFrame f e s).s.counters.bank[i].controlWords := by
  obtain ⟨k, hcounters, hanswer⟩ := Carries.counters_accepted (.inl h) h.not_broadcast fun _ =>
    (checkGetCounterControl_eq r).trans (if_pos ⟨h1, by omega⟩)
  have hdo := doGetCounterControl_eq hi (countedState f e s)
  change (closeFrame f e s).s.counters = (doGetCounterControl r (countedState f e s)).1.counters at hcounters
  change _ → _ = okAnswer .getCounterControl r (doGetCounterControl r (countedState f e s)).2 at hanswer
  rw [hdo] at hcounters hanswer
  rw [hcounters]
  exact hanswer h.unicast

/-- READ COUNTERS answers what it reads of the bank that the frame end leaves. -/
theorem readCounters_accepted (h : Executes s f e r .readCounters) (h2 : r.count = 2) (hp : r.p1 = 1 ∨ r.p1 = 2)
    (hend : r.p0.toNat + r.p1.toNat ≤ 16) :
    Answered (closeFrame f e s).s r .ok (doReadCounters r (closeFrame f e s).s).2 := by
  obtain ⟨k, hcounters, hanswer⟩ := Carries.counters_accepted (.inl h) h.not_broadcast fun _ =>
    (checkReadCounters_eq r).trans (if_pos ⟨h2, hp, hend⟩)
  rw [doReadCounters, hcounters]
  exact hanswer h.unicast

end

/-- Settles O48: each command is refused, or acts on the bank and the gate as the frame end has counted them. -/
theorem counterCommandsWrite : Obligations.CounterCommandsWrite := by
  unfold Obligations.CounterCommandsWrite
  intro s f e r
  have left : ∀ i : CounterIndex, LeftByFrameEnd s f e i (countedState f e s).counters.bank[i] := countedState_left
  refine ⟨fun h => ?_, fun h => ?_, fun h hp => ?_, fun h hp => ?_⟩
  · obtain ⟨-, hcalm⟩ := Carries.counted_left (.inl h) (by decide)
    obtain ⟨hgate, hbad⟩ := setCounter_result h
    refine ⟨_, Carries.exec_eq (.inl h), hgate, fun i h4 hi hsrc => ?_, hbad⟩
    obtain ⟨hanswer, -, c, hbits, hbank⟩ := setCounter_accepted h h4 hi hsrc
    rw [hbank i, if_pos rfl]
    refine ⟨hanswer, rfl, hbits, rfl, rfl, fun j hj => ?_⟩
    rw [hbank j, if_neg hj]
    exact ⟨left j, fun hc => by rw [hcalm hc]⟩
  · obtain ⟨-, hcalm⟩ := Carries.counted_left (.inl h) (by decide)
    obtain ⟨hgate, hdone, hbad⟩ := clearCounters_result h
    refine ⟨_, Carries.exec_eq (.inl h), hgate, fun h1 hle => ?_, hbad⟩
    obtain ⟨hanswer, hbank⟩ := hdone h1 hle
    refine ⟨hanswer, fun i => ?_⟩
    rw [hbank i]
    refine ⟨?_, fun hbit => ?_, fun hbit => ?_⟩
    · rw [← (left i).control]
      split <;> rfl
    · rw [if_pos hbit]
      exact ⟨rfl, rfl, rfl⟩
    · rw [if_neg (by simp [hbit])]
      exact ⟨left i, fun hc => by rw [hcalm hc]⟩
  · have hrow := h.exec_eq
    rw [commandRow, if_pos hp] at hrow
    refine ⟨_, hrow, fun h1 => ?_, fun h1 => ?_⟩
    · obtain ⟨hanswer, hgate, hbank⟩ := gateStart_accepted h hp h1
      refine ⟨hanswer, hgate, fun i => ⟨fun hs => ⟨_, left i, ?_⟩, fun hs => ?_, fun hc => ?_⟩⟩
      · rw [hbank, hs]
        rfl
      · rw [hbank, hs]
        exact left i
      · rw [hbank, hc.gate, h.counted_bank (by decide) hc]
        rfl
    · obtain ⟨hanswer, hgate, hleft, -⟩ := gate_refused h fun ⟨hone, _⟩ => h1 hone
      exact ⟨hanswer, hgate, hleft⟩
  · have hrow := h.exec_eq
    rw [commandRow, if_neg hp] at hrow
    by_cases hfits : r.count = 1 ∧ r.p0 = 0
    · obtain ⟨h1, h0⟩ := hfits
      obtain ⟨hanswer, hgate, hbank⟩ := gateStop_accepted h h0 h1
      refine ⟨_, hrow, by rw [hbank]; exact left, fun _ _ => ⟨hanswer, hgate, fun hc => ?_⟩, fun hbad => ?_⟩
      · rw [hbank, h.counted_bank (by decide) hc]
      · exact absurd ⟨h1, h0⟩ (not_and_or.2 hbad)
    · have hunfit : ¬(r.count = 1 ∧ (r.p0 = 0 ∨ r.p0 = 1)) := fun ⟨h1, hval⟩ =>
        hfits ⟨h1, hval.resolve_right hp⟩
      obtain ⟨hanswer, hgate, hleft, -⟩ := gate_refused h hunfit
      exact ⟨_, hrow, hleft, fun h1 h0 => absurd ⟨h1, h0⟩ hfits, fun _ => ⟨hanswer, hgate⟩⟩

/-- Settles O49: each read is refused, or answers from the bank that the frame end leaves, which it does not reach. -/
theorem counterCommandsRead : Obligations.CounterCommandsRead := by
  unfold Obligations.CounterCommandsRead
  intro s f e r
  refine ⟨fun h => ⟨_, Carries.exec_eq (.inl h), fun i h1 hi => ?_, fun hbad => ?_⟩,
    fun h => ⟨_, Carries.exec_eq (.inl h), fun i h2 hi h1 => ?_, fun i j h2 hi hp hj => ?_, fun hbad => ?_⟩⟩
  · obtain ⟨hwrap, hprevious, hzero⟩ := flagWord_fields (closeFrame f e s).s.counters.bank[i].previous
      (closeFrame f e s).s.counters.bank[i].wrapFlag
    exact ⟨_, getCounterControl_accepted h h1 hi, CounterControl.bits_low _, hwrap, hprevious, hzero⟩
  · exact h.refused_answer ((checkGetCounterControl_eq r).trans (if_neg (by omega)))
  · have hend : r.p0.toNat + r.p1.toNat ≤ 16 := by
      rw [hi, h1]
      exact i.isLt
    have hanswer := readCounters_accepted h h2 (.inl h1) hend
    rwa [doReadCounters_one hi h1] at hanswer
  · have hend : r.p0.toNat + r.p1.toNat ≤ 16 := by
      rw [hi, hp]
      exact (Nat.succ_le_succ hj.ge).trans j.isLt
    have hanswer := readCounters_accepted h h2 (.inr hp) hend
    rwa [doReadCounters_two hi hp hj] at hanswer
  · exact h.refused_answer ((checkReadCounters_eq r).trans (if_neg hbad))

end Sys2Proof.Machine
end

section
/-! SUPPORT. The Snapshot Unit beside the command of a frame end: as the command meets it, before the capture, and as
the capture leaves it to the command that acts (R155 to R158). -/

namespace Sys2Proof.Machine

section
variable {s : State} {f : FrameInFlight} {e : FrameClose} {r : Request} {n : CommandName}

/-! ### Before the capture -/

/-- The command meets the Snapshot Unit with the schedule tested and nothing captured (R155, R158). -/
theorem metByCommand_snaps (s : State) (f : FrameInFlight) (e : FrameClose) : (metByCommand s f e).snaps =
    if s.snaps.firesAt f.number then { s.snaps with scheduled := none } else s.snaps := by
  obtain ⟨-, hbegin⟩ := Closing.begin_snaps f e s
  exact ((Closing.begin f e s).meet_same _).snaps.trans hbegin

theorem metByCommand_queue (s : State) (f : FrameInFlight) (e : FrameClose) :
    (metByCommand s f e).snaps.queue = s.snaps.queue := by
  rw [metByCommand_snaps]
  split <;> rfl

theorem metByCommand_scheduled (s : State) (f : FrameInFlight) (e : FrameClose) :
    (metByCommand s f e).snaps.scheduled = if s.snaps.firesAt f.number then none else s.snaps.scheduled := by
  rw [metByCommand_snaps]
  split <;> rfl

/-! ### The capture -/

/-- Without a trigger nothing is captured or lost (R156, R157). -/
theorem countedState_untriggered (ht : (frameCauses f e s).any = false) :
    (countedState f e s).snaps.queue = s.snaps.queue ∧ (countedState f e s).snaps.serial = s.snaps.serial
      ∧ (countedState f e s).snaps.lost = s.snaps.lost := by
  obtain ⟨t, hqueue, hserial, hlost, -, hstep⟩ := countedState_captureStep f e s
  rcases t.captureStep_cases f.number (frameCauses f e s) with ⟨-, hnone⟩ | ⟨hany, -⟩ | ⟨hany, -⟩
  · rw [hstep, hnone]
    exact ⟨hqueue, hserial, hlost⟩
  · exact absurd (ht.symm.trans hany) Bool.false_ne_true
  · exact absurd (ht.symm.trans hany) Bool.false_ne_true

/-- A frame end appends one record at most, behind the others (R156, R157). -/
theorem countedState_queue (s : State) (f : FrameInFlight) (e : FrameClose) :
    ∃ new, (countedState f e s).snaps.queue = s.snaps.queue ++ new ∧ new.length ≤ 1 := by
  by_cases ht : (frameCauses f e s).any = true
  · by_cases hq : s.snaps.queue.length < 4
    · obtain ⟨x, hx, -⟩ := countedState_captured ht hq
      exact ⟨[x], hx.queue, le_rfl⟩
    · obtain ⟨hqueue, -⟩ := countedState_lost ht (Nat.not_lt.1 hq)
      exact ⟨[], by rw [hqueue, List.append_nil], Nat.zero_le 1⟩
  · obtain ⟨hqueue, -⟩ := countedState_untriggered (Bool.eq_false_iff.2 ht)
    exact ⟨[], by rw [hqueue, List.append_nil], Nat.zero_le 1⟩

/-- No frame end leaves the sync-loss mark set (R154). -/
theorem countedState_mark (s : State) (f : FrameInFlight) (e : FrameClose) :
    (countedState f e s).snaps.syncLossMark = false := by
  obtain ⟨-, -, -, -, -, -, -, -, -, -, -, -, hmark⟩ := Closing.count_state (Closing.settled f e s).beforeCapture
  exact hmark

/-- What the capture tells a TAKE SNAPSHOT now: the record's serial, or the loss (R156, R157). -/
theorem settled_capture (ht : (frameCauses f e s).any = true) : (Closing.settled f e s).capture =
    if s.snaps.queue.length < 4 then .made s.snaps.serial else .lost := by
  have hunit : (Closing.settled f e s).s.snaps.queue = s.snaps.queue
      ∧ (Closing.settled f e s).s.snaps.serial = s.snaps.serial := by
    rw [settled_snaps]
    split <;> exact ⟨rfl, rfl⟩
  obtain ⟨hqueue, hserial⟩ := hunit
  rw [Closing.capture, causes_eq_frameCauses, SnapshotUnit.outcome, ht, hqueue, hserial]
  rfl

/-! ### The command that acts -/

theorem State.answer_snaps (s : State) (r : Request) (x : ResponseRecord) : (s.answer r x).snaps = s.snaps := by
  obtain ⟨y, h⟩ := s.answer_eq r x
  rw [h]

theorem State.answer_counters (s : State) (r : Request) (x : ResponseRecord) :
    (s.answer r x).counters = s.counters := by
  obtain ⟨y, h⟩ := s.answer_eq r x
  rw [h]

/-- A command that passes its checks is told what this frame end's capture came to (R102, R159). -/
theorem Carries.closeFrame_told (h : Carries s f e r n) (hn : r.cls = .broadcast → BroadcastName (some n))
    (hc : checkCommand n r (metByCommand s f e) = none) :
    (Closing.settled f e s).taking = .accepted r n
      ∧ (closeFrame f e s).s = (doCommand n r (Closing.settled f e s).capture (countedState f e s)).1.answer r
        (okAnswer n r (doCommand n r (Closing.settled f e s).capture (countedState f e s)).2) := by
  have htaking : (Closing.settled f e s).taking = .accepted r n := by
    rw [settled_taking, h.command_eq hn hc]
    rfl
  refine ⟨htaking, ?_⟩
  rw [closeFrame_eq_run, htaking]
  rfl

/-- A command that passes its checks acts on the snapshots as the capture leaves them, and a unicast is answered (R102,
R158). -/
theorem Carries.snaps_accepted (h : Carries s f e r n) (hn : r.cls = .broadcast → BroadcastName (some n))
    (hc : checkCommand n r (metByCommand s f e) = none) :
    ∃ k, (closeFrame f e s).s.snaps = (doCommand n r k (countedState f e s)).1.snaps
      ∧ (r.cls = .unicast → (closeFrame f e s).s.cmd.response
          = okAnswer n r (doCommand n r k (countedState f e s)).2) := by
  obtain ⟨-, hu⟩ := h.closeFrame_told hn hc
  refine ⟨(Closing.settled f e s).capture, by rw [hu, State.answer_snaps], fun hcls => ?_⟩
  rw [hu, State.answer_response _ (.inl hcls)]

/-- A command that fails a check leaves the snapshots as the capture leaves them, and draws its refusal (R57, R102). -/
theorem Carries.snaps_refused (h : Carries s f e r n) (hn : r.cls = .broadcast → BroadcastName (some n))
    {st : Status} {data : List Word} (hc : checkCommand n r (metByCommand s f e) = some (st, data)) :
    AnsweredIfUnicast (closeFrame f e s).s r st data ∧ (closeFrame f e s).s.snaps = (countedState f e s).snaps := by
  obtain ⟨hheld, hname, -⟩ := h.held
  obtain ⟨hanswer, -⟩ := h.refused_result hn hc
  have hidle : (Closing.settled f e s).taking.Idle := fun q m ht => by
    have hacc := acceptsAt_of_settled ht
    cases hheld.symm.trans hacc.held
    cases hname.symm.trans hacc.name
    cases hc.symm.trans hacc.passes
  obtain ⟨x, hx⟩ := Taking.run_idle hidle (Closing.settled f e s).capture (countedState f e s)
  exact ⟨hanswer, by rw [closeFrame_eq_run, hx]⟩

/-- A calm frame end captures nothing and loses nothing, unless its command captures (R154). -/
theorem Carries.counted_snaps (h : Carries s f e r n) (hn : n ≠ .takeSnapshot) (hcalm : Calm s) :
    (countedState f e s).snaps = s.snaps := by
  obtain ⟨hheld, hname, -⟩ := h.held
  have hcap : (Closing.settled f e s).taking.captures = false := settled_captures_eq fun q hq _ => by
    cases hheld.symm.trans hq
    rw [hname]
    exact fun heq => hn (Option.some.inj heq)
  obtain ⟨-, hsnaps, -⟩ := countedState_calm hcalm hcap
  exact hsnaps

end

end Sys2Proof.Machine
end

section
/-! PROOFS. The sync-loss trigger (O29): a capture or a loss at a frame end without a command, and the notice of either
(R154, R156, R157). -/

namespace Sys2Proof.Machine

section
variable {s : State} {f : FrameInFlight} {e : FrameClose}

/-- Where no item was written and nothing is raised the resend step alone reaches the notices before the capture
(R127). -/
theorem NoCommand.settled_notices (h : NoCommand s) (hn : NothingRaised s f) (hi : s.arb.item = .none) :
    (Closing.settled f e s).s.notices
      = { s.notices with records := Resent s.notices.records, pendingDrops := 0 } := by
  obtain ⟨before, after, hw, hnodup, hc, hr⟩ := h.worked_order f e
  have hbegin : (Closing.begin f e s).Unraised :=
    ⟨by rw [Closing.begin_item, hi], (begin_silent e hn).number, (begin_silent e hn).expiry⟩
  show { (Closing.worked f e s).s.notices with pendingDrops := 0 } = _
  rw [hw, hbegin.meet_notices hc hnodup, if_pos (List.mem_append_left _ hr), Closing.begin_notices]

/-- A sync loss is the one trigger of a frame end without a command whose gate is STOPPED and schedule IDLE. -/
theorem NoCommand.frameCauses_eq (h : NoCommand s) (hg : s.counters.gate = false) (hF : s.snaps.scheduled = none) :
    frameCauses f e s = { command := false, scheduled := false, wrap := false
                          syncLoss := s.snaps.syncLossMark && s.cmd.params.snapOnSyncLoss } := by
  obtain ⟨-, hgate⟩ := settled_counters s f e
  rw [frameCauses, h.settled_taking, CounterBank.wrapTrigger_stopped (hgate.trans hg), SnapshotUnit.firesAt, hF]
  rfl

/-- The frame end leaves an IDLE schedule IDLE, and clears the sync-loss mark (R154, R155). -/
theorem countedState_unmarked (hF : s.snaps.scheduled = none) {q : List SnapshotRecord} {serial : SequenceNumber}
    {lost : Nat} (hqueue : (countedState f e s).snaps.queue = q) (hserial : (countedState f e s).snaps.serial = serial)
    (hlost : (countedState f e s).snaps.lost = lost) : (countedState f e s).snaps
      = { queue := q, scheduled := s.snaps.scheduled, serial := serial, lost := lost, syncLossMark := false } := by
  have hscheduled : (countedState f e s).snaps.scheduled = s.snaps.scheduled := by
    rw [countedState_scheduled, hF, ite_self]
  rw [← hqueue, ← hserial, ← hlost, ← hscheduled, ← countedState_mark s f e]

end

/-- Settles O29: the mark is the one trigger of the frame end, so its capture or its loss raises the one notice. -/
theorem syncLossTriggersASnapshot : Obligations.SyncLossTriggersASnapshot := by
  unfold Obligations.SyncLossTriggersASnapshot
  intro s f e hend hno hraised hitem hgate hF hmark
  have hcounted := hno.closeFrame_counted f e
  have hcauses := hno.frameCauses_eq (f := f) (e := e) hgate hF
  have hnotices := hno.settled_notices (e := e) hraised hitem
  obtain ⟨htriggered, -⟩ := hno.closeFrame_notices (f := f) (e := e) hgate
  have any_eq : (frameCauses f e s).any = s.cmd.params.snapOnSyncLoss := by
    rw [hcauses, hmark]
    rfl
  rw [hnotices] at htriggered
  refine ⟨_, exec_frameEnd_eq e hend, by rw [hcounted]; exact countedState_mark s f e, fun hon hq => ?_,
    fun hon hq => ?_, fun hoff => ?_⟩
  · obtain ⟨x, hx, hxc⟩ := countedState_captured (any_eq.trans hon) hq
    refine ⟨x, hx.of_same (by rw [hcounted]) (by rw [hcounted]), ?_, ?_⟩
    · rw [hxc, hcauses, hmark, hon]
      rfl
    · rw [htriggered (.inr ⟨hmark, hon⟩), captureNotice, if_pos hq]
  · obtain ⟨hqueue, hserial, hlost, -⟩ := countedState_lost (any_eq.trans hon) hq
    refine ⟨hcounted ▸ countedState_unmarked hF hqueue hserial hlost, ?_⟩
    rw [htriggered (.inr ⟨hmark, hon⟩), captureNotice, if_neg (Nat.not_lt.2 hq)]
  · obtain ⟨hqueue, hserial, hlost⟩ := countedState_untriggered (any_eq.trans hoff)
    exact hcounted ▸ countedState_unmarked hF hqueue hserial hlost

end Sys2Proof.Machine
end

section
/-! PROOFS. TAKE SNAPSHOT in the now form (O50): a COMMAND trigger of its frame end, and the answer that reports what
came of it (R154, R156, R157, R159). -/

namespace Sys2Proof.Machine

section
variable {s : State} {f : FrameInFlight} {e : FrameClose} {r : Request}

theorem takeSnapshot_broadcast (_ : r.cls = .broadcast) : BroadcastName (some .takeSnapshot) := by
  simp [BroadcastName]

/-- A count that fits eight bits is the answer's word (R159). -/
theorem countWord_eq {k : Nat} (h : k ≤ 255) : (BitVec.ofNat 8 k).zeroExtend 32 = BitVec.ofNat 32 k := by
  apply BitVec.eq_of_toNat_eq
  simp
  omega

/-- A TAKE SNAPSHOT now is a trigger of the frame end that takes it, acts on nothing itself, and answers the capture
(R154, R159). -/
theorem takeSnapshotNow_result (h : Carries s f e r .takeSnapshot) (h0 : r.count = 0) :
    (frameCauses f e s).command = true ∧ (frameCauses f e s).any = true
      ∧ (closeFrame f e s).s.counters = (countedState f e s).counters
      ∧ (closeFrame f e s).s.snaps = (countedState f e s).snaps
      ∧ AnsweredIfUnicast (closeFrame f e s).s r .ok
          (captureWords (Closing.settled f e s).capture (countedState f e s).snaps) := by
  have hcheck : checkCommand .takeSnapshot r (metByCommand s f e) = none := by
    simp [checkCommand, checkTakeSnapshot, h0]
  obtain ⟨htaking, hu⟩ := h.closeFrame_told takeSnapshot_broadcast hcheck
  have hdo : doCommand .takeSnapshot r (Closing.settled f e s).capture (countedState f e s)
      = (countedState f e s, captureWords (Closing.settled f e s).capture (countedState f e s).snaps) := by
    simp [doCommand, doTakeSnapshot, h0]
  have hcommand : (frameCauses f e s).command = true := by
    simp [frameCauses, htaking, Taking.captures, h0]
  rw [hdo] at hu
  rw [hu]
  exact ⟨hcommand, by simp [Causes.any, hcommand], State.answer_counters .., State.answer_snaps ..,
    fun hcls => State.answer_response _ (.inl hcls) _⟩

end

/-- Settles O50: the COMMAND trigger is captured where the queue has a place and lost where it is full. -/
theorem takeSnapshotNowCaptures : Obligations.TakeSnapshotNowCaptures := by
  unfold Obligations.TakeSnapshotNowCaptures
  intro s f e r h h0 hbounded
  have hrow := h.exec_eq
  rw [commandRow, if_pos h0] at hrow
  obtain ⟨hcommand, hany, hcounters, hsnaps, hanswer⟩ := takeSnapshotNow_result h h0
  have hscheduled := countedState_scheduled (s := s) (f := f) (e := e)
  rw [settled_capture hany] at hanswer
  refine ⟨_, hrow, fun hq => ?_, fun hq => ?_, fun F hF hbefore => ?_, fun hF => ?_⟩
  · obtain ⟨x, hx, hcauses⟩ := countedState_captured hany hq
    rw [if_pos hq, captureWords, hx.queue, hx.lost, List.length_append, countWord_eq hbounded.lost] at hanswer
    exact ⟨x, hx.of_same hcounters hsnaps, by rw [hcauses]; exact hcommand, hanswer⟩
  · obtain ⟨hqueue, hserial, hlost, hevaluated⟩ := countedState_lost hany hq.ge
    rw [if_neg hq.not_lt, captureWords, hqueue, hlost, hq, countWord_eq (min_le_left 255 _)] at hanswer
    rw [hsnaps, hcounters]
    exact ⟨hqueue, hserial, hlost, hevaluated, hanswer⟩
  · rw [hsnaps, hscheduled, firesAt_of_scheduled hF, decide_eq_false (Nat.not_lt.2 hbefore)]
    exact hF
  · rw [hsnaps, hscheduled, hF, ite_self]

end Sys2Proof.Machine
end

section
/-! PROOFS. TAKE SNAPSHOT in the scheduled form and CANCEL SNAPSHOT (O51): the schedule that the test of the frame end
leaves is armed or cancelled (R155, R160, R161). -/

namespace Sys2Proof.Machine

section
variable {s : State} {f : FrameInFlight} {e : FrameClose} {r : Request} {armed : Option FrameNumber}

theorem cancelSnapshot_broadcast (_ : r.cls = .broadcast) : BroadcastName (some .cancelSnapshot) := by
  simp [BroadcastName]

/-! ### The checks (R160, R161) -/

theorem checkTakeSnapshot_eq (h0 : r.count ≠ 0) (t : State) : checkTakeSnapshot r t =
    if r.count ≠ 1 then some (.badParameter, [])
    else if t.snaps.scheduled = none then none else some (.alreadyArmed, []) := by
  by_cases h1 : r.count = 1 <;> cases hF : t.snaps.scheduled <;> simp [checkTakeSnapshot, require, h0, h1, hF]

theorem checkCancelSnapshot_eq (r : Request) (t : State) : checkCancelSnapshot r t =
    if r.count ≠ 0 then some (.badParameter, [])
    else if t.snaps.scheduled = none then some (.notArmed, []) else none := by
  by_cases h0 : r.count = 0 <;> cases hF : t.snaps.scheduled <;> simp [checkCancelSnapshot, require, h0, hF]

/-! ### The schedule after its test (R155) -/

/-- The trigger that did not fire here is what the test of the schedule leaves. -/
theorem armed_eq (h : ∀ F, armed = some F ↔ s.snaps.scheduled = some F ∧ 131072 ≤ (f.number - F).toNat) :
    armed = if s.snaps.firesAt f.number then none else s.snaps.scheduled := by
  refine Option.ext fun F => (h F).trans ⟨fun ⟨hF, hbefore⟩ => ?_, fun hleft => ?_⟩
  · rw [firesAt_of_scheduled hF, decide_eq_false (Nat.not_lt.2 hbefore)]
    exact hF
  · by_cases hfires : s.snaps.firesAt f.number = true
    · rw [if_pos hfires] at hleft
      cases hleft
    · rw [if_neg hfires] at hleft
      rw [firesAt_of_scheduled hleft, decide_eq_true_iff] at hfires
      exact ⟨hleft, Nat.not_lt.1 hfires⟩

/-- The execution of a command leaves the Link Receiver as it is counted. -/
theorem closeFrame_link (f : FrameInFlight) (e : FrameClose) (s : State) :
    (closeFrame f e s).s.link = (countedState f e s).link :=
  (Taking.run_host (Closing.settled f e s).taking (Closing.settled f e s).capture (countedState f e s)).1

/-! ### The commands -/

section
variable (harmed : armed = if s.snaps.firesAt f.number then none else s.snaps.scheduled)
include harmed

/-- A refused command leaves the schedule to its test. -/
theorem Carries.scheduled_refused {n : CommandName} (h : Carries s f e r n)
    (hn : r.cls = .broadcast → BroadcastName (some n)) {st : Status} {data : List Word}
    (hc : checkCommand n r (metByCommand s f e) = some (st, data)) :
    AnsweredIfUnicast (closeFrame f e s).s r st data ∧ (closeFrame f e s).s.snaps.scheduled = armed := by
  obtain ⟨hanswer, hsnaps⟩ := h.snaps_refused hn hc
  exact ⟨hanswer, by rw [hsnaps, countedState_scheduled, harmed]⟩

/-- What a TAKE SNAPSHOT with a parameter comes to, as R160 checks it. -/
theorem takeSnapshotScheduled_result (h : Carries s f e r .takeSnapshot) (h0 : r.count ≠ 0) :
    (r.count = 1 → armed = none → AnsweredIfUnicast (closeFrame f e s).s r .ok
          [frameWord (wordFrame r.p0), frameWord (wordFrame r.p0 - (closeFrame f e s).s.link.E)]
        ∧ (closeFrame f e s).s.snaps.scheduled = some (wordFrame r.p0))
      ∧ (r.count = 1 → armed ≠ none → AnsweredIfUnicast (closeFrame f e s).s r .alreadyArmed []
          ∧ (closeFrame f e s).s.snaps.scheduled = armed)
      ∧ (r.count ≠ 1 → AnsweredIfUnicast (closeFrame f e s).s r .badParameter []
          ∧ (closeFrame f e s).s.snaps.scheduled = armed) := by
  have hcheck : checkCommand .takeSnapshot r (metByCommand s f e) = _ := checkTakeSnapshot_eq h0 _
  rw [metByCommand_scheduled, ← harmed] at hcheck
  refine ⟨fun h1 hidle => ?_,
    fun h1 hset => h.scheduled_refused harmed takeSnapshot_broadcast (hcheck.trans (by simp [h1, hset])),
    fun h1 => h.scheduled_refused harmed takeSnapshot_broadcast (hcheck.trans (if_pos h1))⟩
  obtain ⟨k, hsnaps, hanswer⟩ := h.snaps_accepted takeSnapshot_broadcast (hcheck.trans (by simp [h1, hidle]))
  have hdo : doCommand .takeSnapshot r k (countedState f e s) = ({ countedState f e s with
        snaps := { (countedState f e s).snaps with scheduled := some (wordFrame r.p0) } },
      [frameWord (wordFrame r.p0), frameWord (wordFrame r.p0 - (closeFrame f e s).s.link.E)]) := by
    rw [closeFrame_link]
    exact if_neg (by simp [h0])
  rw [hdo] at hsnaps hanswer
  exact ⟨hanswer, by rw [hsnaps]⟩

/-- What CANCEL SNAPSHOT comes to, as R161 checks it. -/
theorem cancelSnapshot_result (h : Carries s f e r .cancelSnapshot) :
    (∀ F, r.count = 0 → armed = some F → AnsweredIfUnicast (closeFrame f e s).s r .ok [frameWord F]
        ∧ (closeFrame f e s).s.snaps.scheduled = none)
      ∧ (r.count = 0 → armed = none → AnsweredIfUnicast (closeFrame f e s).s r .notArmed []
          ∧ (closeFrame f e s).s.snaps.scheduled = armed)
      ∧ (r.count ≠ 0 → AnsweredIfUnicast (closeFrame f e s).s r .badParameter []
          ∧ (closeFrame f e s).s.snaps.scheduled = armed) := by
  have hcheck : checkCommand .cancelSnapshot r (metByCommand s f e) = _ := checkCancelSnapshot_eq r _
  rw [metByCommand_scheduled, ← harmed] at hcheck
  refine ⟨fun F h0 hF => ?_,
    fun h0 hidle => h.scheduled_refused harmed cancelSnapshot_broadcast (hcheck.trans (by simp [h0, hidle])),
    fun h0 => h.scheduled_refused harmed cancelSnapshot_broadcast (hcheck.trans (if_pos h0))⟩
  obtain ⟨k, hsnaps, hanswer⟩ := h.snaps_accepted cancelSnapshot_broadcast (hcheck.trans (by simp [h0, hF]))
  have hcounted : (countedState f e s).snaps.scheduled = some F := by rw [countedState_scheduled, ← harmed, hF]
  refine ⟨fun hcls => (hanswer hcls).trans ?_, by rw [hsnaps]; rfl⟩
  show ResponseRecord.unsent { seq := r.seq, tag := r.tag, status := .ok
                               data := [frameWord ((countedState f e s).snaps.scheduled.getD 0)] } = _
  rw [hcounted]
  rfl

end

end

/-- Settles O51: each command passes the checks of its rule in order on the schedule after its test, or is refused with
the first that fails. -/
theorem snapshotScheduleIsArmedAndCancelled : Obligations.SnapshotScheduleIsArmedAndCancelled := by
  unfold Obligations.SnapshotScheduleIsArmedAndCancelled
  intro s f e r armed hleft
  have harmed := armed_eq hleft
  refine ⟨fun h h0 => ?_, fun h => ?_⟩
  · have hrow := h.exec_eq
    rw [commandRow, if_neg h0] at hrow
    exact ⟨_, hrow, takeSnapshotScheduled_result harmed h h0⟩
  · obtain ⟨hdone, hidle, hbad⟩ := cancelSnapshot_result harmed h
    exact ⟨_, h.exec_eq, hdone, fun h0 hnone => hnone ▸ hidle h0 hnone, hbad⟩

end Sys2Proof.Machine
end

section
/-! PROOFS. READ SNAPSHOT and RELEASE SNAPSHOT (O52): the oldest record, one part of it answered or all of it removed
(R162, R163). -/

namespace Sys2Proof.Machine

/-! ### The parts of a record (R162) -/

/-- The second word of part 0 holds the wrap mask, the causes, the gate and the serial, each in its field. -/
theorem headerWords_fields (x : SnapshotRecord) (depth : Nat) : ∃ w1 : Word,
    x.headerWords depth = [frameWord x.captureE, w1, (BitVec.ofNat 3 depth).zeroExtend 32]
      ∧ w1.extractLsb' 16 16 = x.wrapMask ∧ w1.getLsbD 15 = x.causes.command
      ∧ w1.getLsbD 14 = x.causes.scheduled ∧ w1.getLsbD 13 = x.causes.wrap ∧ w1.getLsbD 12 = x.causes.syncLoss
      ∧ w1.extractLsb' 9 3 = 0 ∧ w1.getLsbD 8 = x.gate ∧ w1.extractLsb' 0 8 = x.serial := by
  refine ⟨_, rfl, ?_, ?_, ?_, ?_, ?_, ?_, ?_, ?_⟩
  · iterate 7 rw [extract_upper _ _ _ _ (by decide)]
    exact extract_whole _
  · iterate 6 rw [bit_upper _ _ _ (by decide)]
    exact bit_last _ _
  · iterate 5 rw [bit_upper _ _ _ (by decide)]
    exact bit_last _ _
  · iterate 4 rw [bit_upper _ _ _ (by decide)]
    exact bit_last _ _
  · iterate 3 rw [bit_upper _ _ _ (by decide)]
    exact bit_last _ _
  · iterate 2 rw [extract_upper _ _ _ _ (by decide)]
    exact (extract_lower _ _ _ _ (by decide)).trans (extract_whole _)
  · rw [bit_upper _ _ _ (by decide)]
    exact bit_last _ _
  · exact (extract_lower _ _ _ _ (by decide)).trans (extract_whole _)

/-- Part `p` beyond 0 holds the values of counters `2p - 2` and `2p - 1`. -/
theorem part_values (x : SnapshotRecord) (depth : Nat) {p : Nat} {i j : CounterIndex} (hi : i.val + 2 = 2 * p)
    (hj : j.val = i.val + 1) : x.part depth p = valueWords x.values[i] ++ valueWords x.values[j] := by
  have hp : (p == 0) = false := by
    rw [beq_eq_false_iff_ne]
    omega
  have hdrop : x.values.toList.drop (2 * p - 2) = x.values[i] :: x.values[j] :: x.values.toList.drop (j.val + 1) := by
    rw [show 2 * p - 2 = i.val by omega, List.drop_eq_getElem_cons (by simp), ← hj,
      List.drop_eq_getElem_cons (by simp)]
    simp [hj]
  rw [SnapshotRecord.part, hp, hdrop]
  simp

/-! ### The checks (R162, R163) -/

section
variable {s : State} {f : FrameInFlight} {e : FrameClose} {r : Request}

theorem checkReadSnapshot_eq (r : Request) (t : State) : checkReadSnapshot r t =
    if ¬(r.count = 1 ∧ r.p0.toNat ≤ 8) then some (.badParameter, [])
    else if t.snaps.queue = [] then some (.queueEmpty, []) else none := by
  by_cases hfits : r.count = 1 ∧ r.p0.toNat ≤ 8
  · obtain ⟨h1, h8⟩ := hfits
    cases hq : t.snaps.queue <;> simp [checkReadSnapshot, require, h1, h8, hq]
  · rw [if_pos hfits]
    rcases not_and_or.1 hfits with h1 | h8
    · simp [checkReadSnapshot, require, h1]
    · simp [checkReadSnapshot, require, h8]

theorem checkReleaseSnapshot_eq (r : Request) (t : State) : checkReleaseSnapshot r t =
    if r.count ≠ 0 then some (.badParameter, [])
    else if t.snaps.queue = [] then some (.queueEmpty, []) else none := by
  by_cases h0 : r.count = 0 <;> cases hq : t.snaps.queue <;> simp [checkReleaseSnapshot, require, h0, hq]

/-! ### READ SNAPSHOT (R162) -/

theorem doReadSnapshot_state (r : Request) (t : State) : (doReadSnapshot r t).1 = t := by
  unfold doReadSnapshot
  split <;> rfl

theorem doReadSnapshot_words {x : SnapshotRecord} {rest : List SnapshotRecord} {t : State}
    (hq : t.snaps.queue = x :: rest) (r : Request) :
    (doReadSnapshot r t).2 = x.part t.snaps.queue.length r.p0.toNat := by
  rw [doReadSnapshot, hq]
  rfl

/-- Accepted or refused, READ SNAPSHOT leaves the snapshots to the frame end. -/
theorem readSnapshot_snaps (h : Executes s f e r .readSnapshot) :
    (closeFrame f e s).s.snaps = (countedState f e s).snaps := by
  cases hc : checkCommand .readSnapshot r (metByCommand s f e) with
  | some t => exact (Carries.snaps_refused (.inl h) h.not_broadcast hc).2
  | none =>
    obtain ⟨k, hsnaps, -⟩ := Carries.snaps_accepted (.inl h) h.not_broadcast hc
    exact hsnaps.trans (congrArg State.snaps (doReadSnapshot_state r _))

/-- A read that fits answers its part of the record that was the oldest before the capture, with the depth after it. -/
theorem readSnapshot_accepted {x : SnapshotRecord} {rest : List SnapshotRecord} (h : Executes s f e r .readSnapshot)
    (hq : s.snaps.queue = x :: rest) (h1 : r.count = 1) (h8 : r.p0.toNat ≤ 8) :
    Answered (closeFrame f e s).s r .ok (x.part (closeFrame f e s).s.snaps.queue.length r.p0.toNat) := by
  have hcheck : checkCommand .readSnapshot r (metByCommand s f e) = _ := checkReadSnapshot_eq r _
  rw [metByCommand_queue, if_neg (not_not.2 ⟨h1, h8⟩), if_neg (by simp [hq])] at hcheck
  obtain ⟨k, -, hanswer⟩ := Carries.snaps_accepted (.inl h) h.not_broadcast hcheck
  obtain ⟨new, hqueue, -⟩ := countedState_queue s f e
  rw [hq, List.cons_append] at hqueue
  rw [readSnapshot_snaps h, ← doReadSnapshot_words hqueue]
  exact hanswer h.unicast

/-! ### RELEASE SNAPSHOT (R163) -/

/-- RELEASE SNAPSHOT reaches the queue at most: the schedule, the lost count and the serial are the frame end's. -/
theorem releaseSnapshot_snaps (h : Executes s f e r .releaseSnapshot) :
    ∃ q, (closeFrame f e s).s.snaps = { (countedState f e s).snaps with queue := q } := by
  cases hc : checkCommand .releaseSnapshot r (metByCommand s f e) with
  | some t => exact ⟨_, (Carries.snaps_refused (.inl h) h.not_broadcast hc).2⟩
  | none =>
    obtain ⟨k, hsnaps, -⟩ := Carries.snaps_accepted (.inl h) h.not_broadcast hc
    exact ⟨_, hsnaps⟩

/-- Its schedule is that of the frame end without it. -/
theorem releaseSnapshot_scheduled (h : Executes s f e r .releaseSnapshot) : (closeFrame f e s).s.snaps.scheduled
    = (closeFrame f e s.withoutCommand).s.snaps.scheduled := by
  obtain ⟨q, hsnaps⟩ := releaseSnapshot_snaps h
  rw [hsnaps, s.withoutCommand_noCommand.closeFrame_counted, countedState_scheduled]
  exact (countedState_scheduled (s := s.withoutCommand)).symm

/-- What RELEASE SNAPSHOT makes of the queue, as R163 checks it. -/
theorem releaseSnapshot_result (h : Executes s f e r .releaseSnapshot) :
    (s.snaps.queue ≠ [] → r.count = 0 → Answered (closeFrame f e s).s r .ok []
        ∧ (closeFrame f e s).s.snaps.queue = (countedState f e s).snaps.queue.tail)
      ∧ (s.snaps.queue = [] → r.count = 0 → Answered (closeFrame f e s).s r .queueEmpty []
          ∧ (closeFrame f e s).s.snaps.queue = (countedState f e s).snaps.queue)
      ∧ (r.count ≠ 0 → Answered (closeFrame f e s).s r .badParameter []
          ∧ (closeFrame f e s).s.snaps.queue = (countedState f e s).snaps.queue) := by
  have hcheck : checkCommand .releaseSnapshot r (metByCommand s f e) = _ := checkReleaseSnapshot_eq r _
  rw [metByCommand_queue] at hcheck
  have refused : ∀ {st : Status}, checkCommand .releaseSnapshot r (metByCommand s f e) = some (st, []) →
      Answered (closeFrame f e s).s r st []
        ∧ (closeFrame f e s).s.snaps.queue = (countedState f e s).snaps.queue := fun hc => by
    obtain ⟨hanswer, hsnaps⟩ := Carries.snaps_refused (.inl h) h.not_broadcast hc
    exact ⟨hanswer h.unicast, congrArg SnapshotUnit.queue hsnaps⟩
  refine ⟨fun hq h0 => ?_, fun hq h0 => refused (hcheck.trans (by simp [hq, h0])),
    fun h0 => refused (hcheck.trans (if_pos h0))⟩
  obtain ⟨k, hsnaps, hanswer⟩ := Carries.snaps_accepted (.inl h) h.not_broadcast (hcheck.trans (by simp [hq, h0]))
  exact ⟨hanswer h.unicast, congrArg SnapshotUnit.queue hsnaps⟩

end

/-- Settles O52: both commands find the record that was the oldest before the capture, which stands in front of what the
frame end appends. -/
theorem oldestSnapshotIsReadAndReleased : Obligations.OldestSnapshotIsReadAndReleased := by
  unfold Obligations.OldestSnapshotIsReadAndReleased
  intro s f e r
  obtain ⟨new, hnew, hone⟩ := countedState_queue s f e
  refine ⟨fun h => ?_, fun h => ?_⟩
  · have hcheck : checkCommand .readSnapshot r (metByCommand s f e) = _ := checkReadSnapshot_eq r _
    rw [metByCommand_queue] at hcheck
    refine ⟨_, Carries.exec_eq (.inl h), ⟨new, by rw [readSnapshot_snaps h, hnew]⟩, fun x rest hq h1 hp => ?_,
      fun x rest i j hq h1 hi hj => ?_, fun h1 h8 hq => ?_, fun hbad => ?_⟩
    · obtain ⟨w1, hwords, hfields⟩ := headerWords_fields x (closeFrame f e s).s.snaps.queue.length
      have hanswer := readSnapshot_accepted h hq h1 (by rw [hp]; decide)
      rw [hp] at hanswer
      change Answered (closeFrame f e s).s r .ok (x.headerWords (closeFrame f e s).s.snaps.queue.length) at hanswer
      rw [hwords] at hanswer
      exact ⟨w1, hanswer, hfields⟩
    · have hanswer := readSnapshot_accepted h hq h1 (by have := j.isLt; omega)
      rwa [part_values x _ hi hj] at hanswer
    · exact h.refused_answer (hcheck.trans (by simp [h1, h8, hq]))
    · exact h.refused_answer (hcheck.trans (if_pos (by omega)))
  · obtain ⟨hdone, hempty, hbad⟩ := releaseSnapshot_result h
    obtain ⟨q, hsnaps⟩ := releaseSnapshot_snaps h
    have hcalm : Calm s → (countedState f e s).snaps = s.snaps := Carries.counted_snaps (.inl h) (by decide)
    refine ⟨_, _, Carries.exec_eq (.inl h), exec_frameEnd_eq e h.toAtEnd.withoutCommand, releaseSnapshot_scheduled h,
      fun hc => by rw [hsnaps, hcalm hc]; exact ⟨rfl, rfl⟩, fun x rest hq h0 => ?_, fun hq h0 => ?_, fun h0 => ?_⟩
    · obtain ⟨hanswer, hqueue⟩ := hdone (by simp [hq]) h0
      refine ⟨hanswer, ⟨new, by rw [hqueue, hnew, hq]; rfl, hone⟩, fun hc => by rw [hqueue, hcalm hc, hq]; rfl⟩
    · obtain ⟨hanswer, hqueue⟩ := hempty hq h0
      exact ⟨hanswer, fun hc => by rw [hqueue, hcalm hc, hq]⟩
    · obtain ⟨hanswer, hqueue⟩ := hbad h0
      exact ⟨hanswer, fun hc => by rw [hqueue, hcalm hc]⟩

end Sys2Proof.Machine
end

section
/-! PROOFS. The step (O1): one equation for each form of the queue (assumption 5). -/

namespace Sys2Proof.Machine

theorem step_of_pending_cons {s : State} {i : Instr} {rest : List Instr} (h : s.pending = i :: rest) :
    step s = exec i { s with pending := rest } := by
  simp only [step, h]

theorem step_of_pending_nil {s : State} (h : s.pending = []) : step s = .next s := by
  simp only [step, h]

/-- Settles O1: the two equations of `step`, the first at a queue that has the happening in front. -/
theorem stepTakesTheFrontHappening : Obligations.StepTakesTheFrontHappening := by
  unfold Obligations.StepTakesTheFrontHappening
  exact ⟨fun c rest s => step_of_pending_cons (s := { s with pending := c :: rest }) rfl,
    fun _ h => step_of_pending_nil h⟩

end Sys2Proof.Machine
end
